-- ==== Sys2Proof/Word.lean ====
section
/-! DEFINITION. The byte and the two things made of bytes that the spec names: every wire unit is a sequence of
8-bit bytes (00_scope R13, 30_encoding R90). -/

namespace Sys2Proof

/-- One byte of the wire, of a payload or of a frame store (00_scope R13). -/
abbrev Byte := BitVec 8

/-- A sequence of bytes in transmission order, first byte first (00_scope R14). -/
abbrev Bytes := List Byte

/-- A frame: the bytes from STX to the checksum byte (30_encoding R95). -/
abbrev Frame := List Byte

end Sys2Proof
end

