-- ==== Sys2Proof/Names.lean ====
section
/-! DEFINITION. The fixed sets of names of the spec (states, events, shapes, engines), the requests of the host port
and of the codec, and the encoded form of an instruction (`Code`). -/

namespace Sys2Proof

/-- The two engines of one transport (10_state R20). -/
inductive Engine where
  | send
  | recv
  deriving DecidableEq, Repr, Inhabited

/-- The twelve states of the send machine, in the order of 41_send_fsm R160; `end_` is the spec's `end`. -/
inductive SendState where
  | idle | enquiry | reenquiry | ack | frame | ack2 | retry | nak | wait | done | error | end_
  deriving DecidableEq, Repr, Inhabited

/-- The nineteen states of the receive machine, in the order of 42_receive_fsm R200; `end_` is the spec's `end`. -/
inductive RecvState where
  | idle | poll | repoll | enquiry | ack | stx | len | datacmd | dataextlen | dataframenumber | data
  | etx | cs | ack2 | nak | retry | done | error | end_
  deriving DecidableEq, Repr, Inhabited

/-- The five events an action can emit (60_exceptions R301). -/
inductive Event where
  | pass | busy | wait | deny | fail
  deriving DecidableEq, Repr, Inhabited

/-- The detected transmission shape of the frame in progress (10_state R31). -/
inductive Shape where
  | none | regular | extPending | extended | divided
  deriving DecidableEq, Repr, Inhabited

/-- The context in which a wire unit is read (30_encoding R110, R112): where one answer byte is looked for, at one of
the three delimiter positions of a frame, or where a frame is looked for, with the receiver's division history. -/
inductive WireContext where
  | answer
  | delimiter
  | frame (midDivision : Bool)
  deriving DecidableEq, Repr

/-- A request to the Frame Codec by itself (40_frame_codec R130 to R142); it has no bit pattern. -/
inductive CodecRequest where
  | buildFrames (payload : Bytes)
  | buildRegular (payload : Bytes)
  | buildExtended (payload : Bytes)
  | buildDivided (payload : Bytes)
  | parseFrames (frames : List Frame)
  | parseRegular (frame : Frame)
  | parseExtended (frame : Frame)
  | parseDivided (frames : List Frame)
  deriving DecidableEq, Repr

/-- A transaction on the host port (43_orchestrator R260); it has no bit pattern (decision D1). -/
inductive HostRequest where
  | construct
  | send (payload : Bytes)
  | receive
  | destruct
  | readCounters
  deriving DecidableEq, Repr

/-- An instruction as it is encoded (00_scope R9): a wire unit in its context, the ordinal of a state register
(10_state R25), or a request that has no bit pattern. -/
inductive Code where
  | wire (ctx : WireContext) (bytes : Bytes)
  | sendState (ordinal : BitVec 4)
  | recvState (ordinal : BitVec 5)
  | codec (r : CodecRequest)
  | host (r : HostRequest)
  deriving DecidableEq, Repr

/-- Why the decoder rejects an encoding. -/
inductive DecodeError where
  /-- There is no byte to read. -/
  | emptyUnit
  /-- In answer context, a byte that is none of 0x05, 0x06, 0x15 (30_encoding R112). -/
  | notAControlByte
  /-- At a delimiter position, a byte that is none of 0x02, 0x03, 0xFE (30_encoding R94). -/
  | notADelimiter
  /-- Byte 0 of a frame is not STX (30_encoding R112). -/
  | noStx
  /-- LEN is 0..4 or 255 (30_encoding R106). -/
  | illegalLen
  /-- EXTLEN is out of the range of its shape (30_encoding R109). -/
  | illegalExtLen
  /-- The bytes end before the frame does. -/
  | truncated
  /-- The byte before the checksum byte is not ETX (30_encoding R110). -/
  | noEtx
  /-- The division flags of a divided frame are 00 or 01, neither more nor last (30_encoding R107, R112). -/
  | divisionFlags
  /-- Bytes are left over after one whole unit. -/
  | trailingBytes
  /-- An ordinal 12..15 of `s_state` (10_state R25). -/
  | unusedSendOrdinal
  /-- An ordinal 19..31 of `r_state` (10_state R25). -/
  | unusedRecvOrdinal
  deriving DecidableEq, Repr

end Sys2Proof
end

