-- ==== Sys2Proof/Config.lean ====
section
/-! DEFINITION. The parameters of the block: the wire constants (00_scope R10), the size, retry and timing constants
with the values the source prints (00_scope R11; 93_implementation_defined U18), the open parameters (00_scope R12) and
the free values (93_implementation_defined U12). An opaque constant has no body: no proof can see its value. -/

namespace Sys2Proof.Config

/-- First byte of every frame (00_scope R10). -/
def STX : Byte := 0x02
/-- Last byte of a frame before the checksum byte (00_scope R10). -/
def ETX : Byte := 0x03
/-- Enquiry (00_scope R10). -/
def ENQ : Byte := 0x05
/-- Positive acknowledge (00_scope R10). -/
def ACK : Byte := 0x06
/-- Negative acknowledge (00_scope R10). -/
def NAK : Byte := 0x15
/-- Marker in the LEN position (00_scope R10). -/
def EXT_LEN : Byte := 0xFE
/-- Address code of peer A (00_scope R10). -/
def ADDR_A : Byte := 0x01
/-- Address code of peer B (00_scope R10). -/
def ADDR_B : Byte := 0x02

/-- A deadline in milliseconds; `none` is unbounded (00_scope R11). -/
abbrev Deadline := Option Nat

/-- The size, retry and timing constants as configuration fields, each with the value the source prints as its default
(00_scope R11; the numerals are unaudited, 93_implementation_defined U18; log 10). -/
structure Params where
  /-- Largest header-inclusive payload size sent as a regular frame. -/
  regMax : Nat := 251
  /-- Largest header-inclusive payload size sent as one extended frame. -/
  extMax : Nat := 1030
  /-- Largest number of data bytes in one divided frame. -/
  chunkMax : Nat := 1024
  /-- Bytes of the payload header: command, sub-command, codebit. -/
  hdr : Nat := 3
  /-- LEN minus the header-inclusive payload size (conflict C1). -/
  lenBias : Nat := 2
  /-- Smallest LEN byte accepted as a regular length. -/
  regLenMin : Nat := 5
  /-- Largest LEN byte accepted as a regular length. -/
  regLenMax : Nat := 253
  /-- EXTLEN minus data bytes in an undivided extended frame (conflict C2). -/
  extOverhead : Nat := 5
  /-- EXTLEN minus chunk bytes in a divided frame. -/
  divOverhead : Nat := 12
  /-- A received EXTLEN above this selects the divided shape. -/
  divThreshold : Nat := 1032
  /-- Division flags: more frames follow. -/
  divMore : Byte := 0x02
  /-- Division flags: last frame of a split transfer. -/
  divLast : Byte := 0x03
  /-- Ceiling of `r2`. -/
  sendRetryLimit : Nat := 240
  /-- Ceiling of `r1`. -/
  recvRetryLimit : Nat := 5
  /-- The device is reopened when `r2` is a multiple of this. -/
  reopenPeriod : Nat := 6
  /-- Deadline of a timed device read, nominally 50 ms. -/
  tField : Deadline := some 50
  /-- The sleep of send `retry` and send `wait`, in milliseconds. -/
  tBackoff : Nat := 5
  /-- Deadline of the receive engine's poll: unbounded. -/
  tPoll : Deadline := none
  /-- Deadline of each read inside a drain: the call answers at once. -/
  tDrain : Deadline := some 0
  deriving DecidableEq, Repr

/-- The configuration of this transport: every field at its default (00_scope R11; log 10). -/
def params : Params := {}

/-- `REG_MAX` (00_scope R11). -/
def regMax : Nat := params.regMax
/-- `EXT_MAX` (00_scope R11). -/
def extMax : Nat := params.extMax
/-- `CHUNK_MAX` (00_scope R11). -/
def chunkMax : Nat := params.chunkMax
/-- `HDR` (00_scope R11). -/
def hdr : Nat := params.hdr
/-- `LEN_BIAS` (00_scope R11). -/
def lenBias : Nat := params.lenBias
/-- LEN minus the data bytes of a regular frame: the header and the bias (30_encoding R97, R98). -/
def regOverhead : Nat := hdr + lenBias
/-- `REG_LEN_MIN` (00_scope R11). -/
def regLenMin : Nat := params.regLenMin
/-- `REG_LEN_MAX` (00_scope R11). -/
def regLenMax : Nat := params.regLenMax
/-- `EXT_OVERHEAD` (00_scope R11). -/
def extOverhead : Nat := params.extOverhead
/-- `DIV_OVERHEAD` (00_scope R11). -/
def divOverhead : Nat := params.divOverhead
/-- `DIV_THRESHOLD` (00_scope R11). -/
def divThreshold : Nat := params.divThreshold
/-- `DIV_MORE` (00_scope R11). -/
def DIV_MORE : Byte := params.divMore
/-- `DIV_LAST` (00_scope R11). -/
def DIV_LAST : Byte := params.divLast
/-- `SEND_RETRY_LIMIT` (00_scope R11). -/
def sendRetryLimit : Nat := params.sendRetryLimit
/-- `RECV_RETRY_LIMIT` (00_scope R11). -/
def recvRetryLimit : Nat := params.recvRetryLimit
/-- `REOPEN_PERIOD` (00_scope R11). -/
def reopenPeriod : Nat := params.reopenPeriod
/-- `T_FIELD` (00_scope R11). -/
def tField : Deadline := params.tField
/-- `T_DRAIN` (00_scope R11). -/
def tDrain : Deadline := params.tDrain
/-- `T_POLL` (00_scope R11). -/
def tPoll : Deadline := params.tPoll
/-- `T_BACKOFF` (00_scope R11). -/
def tBackoff : Nat := params.tBackoff

/-- The largest payload the format can carry: FRAMECOUNT has 16 bits, so there are at most 65535 chunks
(40_frame_codec R133). It is 67107843 bytes. -/
def formatMax : Nat := hdr + 65535 * chunkMax

/-- The checksum function `CS`: an uninterpreted total function of its input bytes (00_scope R12; log 7). -/
opaque checksum : Bytes → Byte

/-- The argument `OPEN_MODE` of the device's open (00_scope R12; log 8). The source names no mode; a number stands for
one. -/
opaque openMode : Nat

/-- How far MAX_PAYLOAD lies above the smallest size `send` takes (log 9). -/
opaque maxPayloadSlack : Fin 67107841

/-- `MAX_PAYLOAD`, "the largest payload size `send` accepts" (00_scope R12): open, at most `formatMax` (40_frame_codec
R133). A size that `send` accepts is at least `HDR` (43_orchestrator R262), and that is all the model says of it from
below (DEDUCED, log 9). -/
def maxPayload : Nat := hdr + maxPayloadSlack.val

/-! Free values (93_implementation_defined U12, log 12): what a register holds where the spec says "no defined value".
Each is applied to the counter `freeCount` of State, and those of the codec, which is a pure function (40_frame_codec
R144), to its operand. -/

/-- `s_state` outside a call. -/
opaque freeSendState : Nat → SendState
/-- `r_state` outside a call. -/
opaque freeRecvState : Nat → RecvState
/-- `s_event` and `r_event` before an action has written them. -/
opaque freeEvent : Nat → Event
/-- `TXF` and `RXF` outside a call. -/
opaque freeFrames : Nat → List Frame
/-- `tx_payload` after a call (43_orchestrator R271; log 27). -/
opaque freePayload : Nat → Bytes
/-- `tx_cursor` outside a call. -/
opaque freeCursor : Nat → BitVec 16
/-- `rx_shape` outside a call. -/
opaque freeShape : Nat → Shape
/-- What `buildRegular` gives for a payload above `REG_MAX`, where no rule states a result (DESIGN CHOICE, log 16). -/
opaque freeRegular : Bytes → List Frame
/-- What `buildExtended` gives for a payload outside its sizes, where no rule states a result (DESIGN CHOICE,
log 16). -/
opaque freeExtended : Bytes → List Frame
/-- What `buildDivided` gives for a payload of at most `EXT_MAX` bytes, where no rule states a result (DESIGN CHOICE,
log 16). -/
opaque freeDivided : Bytes → List Frame
/-- `rx_len` before `len` or `dataextlen` has written it. -/
opaque freeLen : Nat → BitVec 24
/-- `rx_frame_no` before `dataframenumber` has written it. -/
opaque freeFrameNo : Nat → BitVec 16
/-- `rx_frame_cnt` before `dataframenumber` has written it. -/
opaque freeFrameCnt : Nat → BitVec 16

end Sys2Proof.Config
end

