-- ==== Sys2Proof/Machine/State.lean ====
section
/-! DEFINITION. The state of the transport as plain data (10_state), the environment's and the scheduler's inputs, the
reasons a step can stop, and the state after construction (10_state R47, 70_reset_and_hazards R350). -/

namespace Sys2Proof.Machine

/-- The three statuses of the device contract (60_exceptions R330). -/
inductive DevStatus where
  | success | timeout | error
  deriving DecidableEq, Repr, Inhabited

/-- What a device read answers (00_scope R16). -/
inductive ReadResult (α : Type) where
  | success (a : α)
  | timeout
  | error
  deriving DecidableEq, Repr

/-- What a drain answers (20_memory R72). -/
inductive DrainResult where
  | last (b : Byte)
  | empty
  | error
  deriving DecidableEq, Repr

/-- The environment's answer to one device primitive (60_exceptions R330 to R336; log 2, 3). Each primitive reads the
parts its contract leaves open and no other. -/
structure DevAnswer where
  /-- The status of a read, a write or a poll. -/
  status : DevStatus
  /-- A write: the number of bytes written (R335). A timed-out readMulti: the number of bytes lost (U7). -/
  count : Nat
  /-- What the input stream holds after a read's Error (R333) or after an open (U8). -/
  stream : Bytes
  /-- The result of an open (R331). -/
  opened : Bool
  deriving DecidableEq, Repr

/-- How far the send engine is in the primitives of its action (43_orchestrator R269; log 13). -/
inductive SendPhase where
  /-- Nothing of the action has been done, or it is in the reads of its drain. -/
  | start
  /-- `reenquiry`: the drain has ended, the write of ENQ is due. -/
  | write
  /-- `retry`, `wait`: the lock is released, the sleep is due. -/
  | sleep
  /-- `retry`: the sleep is over, the close is due. -/
  | close
  /-- `retry`: the device is closed, the open is due. -/
  | reopen
  deriving DecidableEq, Repr, Inhabited

/-- How far the receive engine is in the primitives of its action (43_orchestrator R269; log 13). -/
inductive RecvPhase where
  /-- Nothing of the action has been done. -/
  | start
  /-- `poll`: the device is readable, the lock is to be acquired. -/
  | lock
  /-- `enquiry`: the drain goes on and `b` is the last byte it has read. -/
  | drained (b : Byte)
  deriving DecidableEq, Repr, Inhabited

/-- What the host port answers (43_orchestrator R260 to R267; log 19). -/
inductive HostResponse where
  | constructed
  | sendResult (ok : Bool)
  | receiveResult (ok : Bool) (payload : Option Bytes)
  | destructed
  | counters (r1 : BitVec 3) (r2 : BitVec 8)
  deriving DecidableEq, Repr

/-- The Frame Codec's result when it is asked by itself (40_frame_codec R130, R139; log 16). -/
inductive CodecResult where
  | none
  | frames (fs : List Frame)
  | payload (p : Bytes)
  deriving DecidableEq, Repr, Inhabited

/-- One turn: which agent moves and, where the move is an input from outside, the input (43_orchestrator R269;
log 1). -/
inductive Turn where
  /-- The engine does the next primitive of its action. -/
  | engine (e : Engine)
  /-- A wire unit arrives from the peer. -/
  | unit (ctx : WireContext) (bytes : Bytes)
  /-- The codec is asked by itself. -/
  | codec (r : CodecRequest)
  /-- The host presents a request. -/
  | host (r : HostRequest)
  /-- The orchestrator takes the held `send` request number `k`, if no `send` is in progress (43_orchestrator R268). -/
  | heldSend (k : Nat)
  /-- The orchestrator takes a held `receive` request, if no `receive` is in progress (43_orchestrator R268). -/
  | heldReceive
  /-- The environment adds any bytes to the input stream (43_orchestrator R269, 60_exceptions R337). -/
  | arrive (bytes : Bytes)
  /-- The peer takes the `n` oldest bytes of the output stream (20_memory R71). -/
  | deliver (n : Nat)
  /-- The host collects the result number `k` of the ended calls it has not collected (43_orchestrator R269). -/
  | collect (k : Nat)
  deriving DecidableEq, Repr

/-- The state of one transport. The spec's own names stand in the docstrings. -/
structure State where
  /-- `s_state` (10_state R21) -/
  sState : SendState
  /-- `s_run` (10_state R23) -/
  sRun : Bool
  /-- `s_event` (10_state R24) -/
  sEvent : Event
  /-- The model's own: the next primitive of the action of `s_state` (log 13). -/
  sPhase : SendPhase
  /-- `TXF` (10_state R26) -/
  txf : List Frame
  /-- `tx_cursor` (10_state R27) -/
  txCursor : BitVec 16
  /-- `tx_ok` (10_state R29) -/
  txOk : Bool
  /-- `tx_payload` (10_state R37) -/
  txPayload : Bytes
  /-- `r_state` (10_state R22) -/
  rState : RecvState
  /-- `r_run` (10_state R23) -/
  rRun : Bool
  /-- `r_event` (10_state R24) -/
  rEvent : Event
  /-- The model's own: the next primitive of the action of `r_state` (log 13). -/
  rPhase : RecvPhase
  /-- `RXF` (10_state R30): the last buffer is the frame in progress. -/
  rxf : List Frame
  /-- `rx_shape` (10_state R31) -/
  rxShape : Shape
  /-- `rx_len` (10_state R32) -/
  rxLen : BitVec 24
  /-- `rx_frame_no` (10_state R33) -/
  rxFrameNo : BitVec 16
  /-- `rx_frame_cnt` (10_state R34) -/
  rxFrameCnt : BitVec 16
  /-- `rx_ok` (10_state R35) -/
  rxOk : Bool
  /-- `rx_payload` (10_state R37); `none` is absent. -/
  rxPayload : Option Bytes
  /-- `r2` (10_state R38) -/
  r2 : BitVec 8
  /-- `r1` (10_state R39) -/
  r1 : BitVec 3
  /-- `lock_owner` (10_state R40); `none` is NONE. -/
  lockOwner : Option Engine
  /-- The model's own: the transport exists, constructed and not destructed (43_orchestrator R266; log 15). -/
  constructed : Bool
  /-- Held `send` requests (43_orchestrator R268; log 14). -/
  heldSends : List Bytes
  /-- Number of held `receive` requests (43_orchestrator R268; log 14). -/
  heldReceives : Nat
  /-- `DEV_IN`, oldest byte first (10_state R41, 20_memory R60). -/
  devIn : Bytes
  /-- `DEV_OUT`, oldest byte first (20_memory R60). -/
  devOut : Bytes
  /-- The device is open (10_state R42). -/
  deviceOpen : Bool
  /-- The model's own: results of ended calls that the host has not collected, oldest first (43_orchestrator R269;
  log 19). -/
  returns : List HostResponse
  /-- The model's own: what the host port has answered, oldest first (log 19). -/
  hostOut : List HostResponse
  /-- The model's own: the last result of the codec asked by itself (log 16). -/
  fcOut : CodecResult
  /-- The model's own: the turns to come (log 1). -/
  turns : List Turn
  /-- The model's own: the environment's answers to the device primitives to come (log 2). -/
  answers : List DevAnswer
  /-- The model's own: the counter that free values are drawn with (log 12). -/
  freeCount : Nat
  deriving DecidableEq, Repr

/-- Why a step stops with a fault. No run that starts at construction reaches one (log 18). -/
inductive Fault where
  /-- Send `frame` with a cursor outside `TXF` (10_state R27 rules it out). Safe: the spec gives such an access no
  meaning. -/
  | txCursorOutOfRange
  /-- A receive state that uses the frame in progress while `RXF` has no buffer (10_state R45 rules it out). Safe. -/
  | noReceiveBuffer
  /-- Receive `data` with a shape or a length for which 42_receive_fsm R216 gives no byte count. Safe. -/
  | noDataCount
  deriving DecidableEq, Repr

/-- Why a step is refused. -/
inductive Refusal where
  /-- Raised by no meaning: an instruction without one yet. Safe. -/
  | notModelled (mnemonic : String)
  /-- Raised by the step: the bytes of a wire unit are no unit (30_encoding R106, R109, R110). Safe: bytes that are no
  unit arrive by another turn. -/
  | undecodable (e : DecodeError)
  /-- Raised by `send`: fewer than 3 bytes or more than MAX_PAYLOAD (43_orchestrator R263, U11). Safe. -/
  | payloadSize
  /-- Raised by `buildFrames` on a payload above MAX_PAYLOAD and by `buildDivided` on one above what the format can carry
  (40_frame_codec R133). Safe. -/
  | codecDomain
  /-- Raised by a parse operation on a list that is empty, holds a frame too short for its shape or mixes shapes
  (40_frame_codec R139, U9). Safe. -/
  | parseDomain
  /-- Raised by a host operation other than `construct` after `destruct` (43_orchestrator R266). Safe. -/
  | transportDestructed
  /-- Raised by `destruct` while a call is in progress (43_orchestrator R266, U14). Safe. -/
  | destructDuringCall
  /-- Raised by the addressing layer on division flags 01 (30_encoding R107, 93_implementation_defined U3). Safe. -/
  | reservedFlags
  /-- Raised by the dual-channel pair on a `receive` at the transmit instance or a `send` at the receive instance
  (44_addressing_boundary R286). Safe. -/
  | wrongChannel
  /-- Raised by `construct` while a call is in progress: no reset acts while the block runs (70_reset_and_hazards R350).
  Safe. -/
  | constructDuringCall
  deriving DecidableEq, Repr

/-- The machine right after construction (10_state R47, 70_reset_and_hazards R351). Where the spec says
"unspecified", the value here is the model's own (log 11). -/
def State.reset : State where
  sState := .idle
  sRun := false
  sEvent := .pass
  sPhase := .start
  txf := []
  txCursor := 0
  txOk := false
  txPayload := []
  rState := .idle
  rRun := false
  rEvent := .pass
  rPhase := .start
  rxf := []
  rxShape := .none
  rxLen := 0
  rxFrameNo := 0
  rxFrameCnt := 0
  rxOk := false
  rxPayload := none
  r2 := 0
  r1 := 0
  lockOwner := none
  constructed := true
  heldSends := []
  heldReceives := 0
  devIn := []
  devOut := []
  deviceOpen := true
  returns := []
  hostOut := []
  fcOut := .none
  turns := []
  answers := []
  freeCount := 0

end Sys2Proof.Machine
end

