-- ==== Sys2Proof/Machine/Flags.lean ====
section
/-! DEFINITION. What takes the place of flags and condition codes (00_scope R9): the two transition tables, the
classifications that turn a device answer into an event, and the derived flags `tx_more` and `mid_division`. -/

namespace Sys2Proof.Machine

/-! ### The transition tables -/

/-- `T_send` (41_send_fsm R162), row by row; `end` has no successor. -/
def tSend : SendState → Event → Option SendState
  | .idle, .pass => some .enquiry
  | .idle, _ => some .retry
  | .enquiry, .pass => some .reenquiry
  | .enquiry, _ => some .retry
  | .reenquiry, .pass => some .ack
  | .reenquiry, .wait => some .nak
  | .reenquiry, _ => some .retry
  | .ack, .pass => some .frame
  | .ack, .busy => some .reenquiry
  | .ack, .wait => some .nak
  | .ack, _ => some .retry
  | .frame, .pass => some .ack2
  | .frame, _ => some .retry
  | .ack2, .pass => some .done
  | .ack2, _ => some .retry
  | .retry, .pass => some .enquiry
  | .retry, .fail => some .error
  | .retry, _ => some .retry
  | .nak, .pass => some .wait
  | .nak, _ => some .retry
  | .wait, .pass => some .enquiry
  | .wait, _ => some .retry
  | .done, .wait => some .reenquiry
  | .done, _ => some .end_
  | .error, _ => some .end_
  | .end_, _ => none

/-- `T_recv` (42_receive_fsm R202), row by row; `end` has no successor. -/
def tRecv : RecvState → Event → Option RecvState
  | .idle, .pass => some .poll
  | .idle, _ => some .error
  | .poll, .pass => some .enquiry
  | .poll, _ => some .error
  | .repoll, .pass => some .poll
  | .repoll, _ => some .error
  | .enquiry, .pass => some .ack
  | .enquiry, .busy => some .repoll
  | .enquiry, .deny => some .retry
  | .enquiry, _ => some .error
  | .ack, .pass => some .stx
  | .ack, .deny => some .nak
  | .ack, _ => some .error
  | .stx, .pass => some .len
  | .stx, .deny => some .nak
  | .stx, _ => some .error
  | .len, .pass => some .datacmd
  | .len, .deny => some .nak
  | .len, _ => some .error
  | .datacmd, .pass => some .dataextlen
  | .datacmd, .deny => some .nak
  | .datacmd, _ => some .error
  | .dataextlen, .pass => some .dataframenumber
  | .dataextlen, .deny => some .nak
  | .dataextlen, _ => some .error
  | .dataframenumber, .pass => some .data
  | .dataframenumber, .deny => some .nak
  | .dataframenumber, _ => some .error
  | .data, .pass => some .etx
  | .data, .deny => some .nak
  | .data, _ => some .error
  | .etx, .pass => some .cs
  | .etx, .deny => some .nak
  | .etx, _ => some .error
  | .cs, .pass => some .ack2
  | .cs, _ => some .nak
  | .ack2, .pass => some .done
  | .ack2, _ => some .error
  | .nak, .pass => some .retry
  | .nak, _ => some .error
  | .retry, .pass => some .repoll
  | .retry, _ => some .error
  | .done, .wait => some .enquiry
  | .done, _ => some .end_
  | .error, _ => some .end_
  | .end_, _ => none

/-! ### Classifications -/

/-- The classification of `AnswerWait` (41_send_fsm R163). -/
def classifyAnswer : ReadResult Byte → Event
  | .success b =>
    if b = Config.ACK then .pass else if b = Config.NAK then .busy else if b = Config.ENQ then .wait else .deny
  | .timeout => .deny
  | .error => .fail

/-- The event of a send-side write of `len` bytes that answered a status and `k` bytes written (41_send_fsm R166, R168,
R171). -/
def classifySendWrite (len : Nat) : DevStatus × Nat → Event
  | (.success, k) => if k = len then .pass else .fail
  | (.timeout, _) => .deny
  | (.error, _) => .fail

/-- The event of a receive-side write: anything but full success is `Fail` (42_receive_fsm R209, R219, R220). -/
def classifyRecvWrite (len : Nat) : DevStatus × Nat → Event
  | (.success, k) => if k = len then .pass else .fail
  | _ => .fail

/-- The classification of the last drained byte in receive `enquiry` (42_receive_fsm R208). -/
def classifyDrain : DrainResult → Event
  | .last b => if b = Config.ENQ then .pass else if b = Config.NAK then .busy else .deny
  | .empty => .busy
  | .error => .fail

/-- What a drain answers when a read finds no byte: `Last(b)` or `Empty` (20_memory R72). -/
def drainSoFar : RecvPhase → DrainResult
  | .drained b => .last b
  | .start | .lock => .empty

/-- The event of a field state that expects one control byte (42_receive_fsm R210, R217). -/
def classifyExpected (expected b : Byte) : Event := if b = expected then .pass else .deny

/-! ### Derived flags -/

/-- `tx_more` (10_state R28). -/
def State.txMore (s : State) : Bool := decide (s.txCursor.toNat + 1 < s.txf.length)

/-- `mid_division` (10_state R36): at least one frame of the message has been completed. -/
def State.midDivision (s : State) : Bool := decide (1 < s.rxf.length)

/-- The last-frame test of receive `done`, on integers without wrap (40_frame_codec R152, 42_receive_fsm R222). -/
def State.moreDivided (s : State) : Bool :=
  decide (s.rxShape = .divided) && decide (s.rxFrameNo.toNat + 1 ≠ s.rxFrameCnt.toNat)

end Sys2Proof.Machine
end

