-- ==== Sys2Proof/Machine/Operands.lean ====
section
/-! DEFINITION. The operand forms of the block: byte slices and big-endian fields (00_scope R14, 20_memory R62), the
fields of the codebit (30_encoding R96), and which frames are long enough for their shape's fixed fields
(40_frame_codec R139). -/

namespace Sys2Proof.Machine

/-- `s[i..j)`: bytes `i` to `j-1` (00_scope R14). -/
def slice (s : Bytes) (i j : Nat) : Bytes := (s.take j).drop i

/-- `be16(v)`: two bytes, most significant first (00_scope R14, 20_memory R62). -/
def be16 (v : Nat) : Bytes := [BitVec.ofNat 8 (v / 256), BitVec.ofNat 8 v]

/-- `be24(v)`: three bytes, most significant first (00_scope R14, 20_memory R62). -/
def be24 (v : Nat) : Bytes := [BitVec.ofNat 8 (v / 65536), BitVec.ofNat 8 (v / 256), BitVec.ofNat 8 v]

/-- `unbe(s)`: the integer whose big-endian encoding is `s` (00_scope R14). -/
def unbe (s : Bytes) : Nat := s.foldl (fun a b => a * 256 + b.toNat) 0

/-- Sender address, bits 7..5 of the codebit (30_encoding R96). -/
def codebitSender (cb : Byte) : BitVec 3 := cb.extractLsb' 5 3

/-- Receiver address, bits 4..2 of the codebit (30_encoding R96). -/
def codebitReceiver (cb : Byte) : BitVec 3 := cb.extractLsb' 2 3

/-- Division flags, bits 1..0 of the codebit (30_encoding R96). -/
def codebitFlags (cb : Byte) : BitVec 2 := cb.extractLsb' 0 2

/-- The division flags say that more frames follow (30_encoding R96, R112). -/
def flagsMore (cb : Byte) : Bool := codebitFlags cb = Config.DIV_MORE.extractLsb' 0 2

/-- The division flags say that this frame is the last (30_encoding R96, R112). -/
def flagsLast (cb : Byte) : Bool := codebitFlags cb = Config.DIV_LAST.extractLsb' 0 2

/-- The division flags are `01`, which nothing defines (30_encoding R107). -/
def flagsReserved (cb : Byte) : Bool := codebitFlags cb = 1

/-- codebit = (sender << 5) + (receiver << 2) + flags (30_encoding R96). -/
def codebit (sender receiver : BitVec 3) (flags : BitVec 2) : Byte := sender ++ receiver ++ flags

/-- The header of a divided frame: the payload's header with `flag` OR-ed into the codebit, a bitwise OR and not an
addition (40_frame_codec R137). -/
def flagHeader (flag : Byte) : Bytes → Bytes
  | [cmd, sub, cb] => [cmd, sub, cb ||| flag]
  | h => h

/-- Byte 1 of the frame is the marker 0xFE: the frame is of an extended shape (30_encoding R94). -/
def isExtended (f : Frame) : Bool := f[1]? = some Config.EXT_LEN

/-- The shape test on a received EXTLEN (30_encoding R105): divided when a frame of the message has been completed
already or EXTLEN is above the threshold. -/
def selectsDivided (midDivision : Bool) (extLen : Nat) : Bool := midDivision || decide (Config.divThreshold < extLen)

/-- A regular frame holds STX, LEN, ETX and CS; its header is part of the payload, which may be shorter than a header
(40_frame_codec R133, R139; log 17). -/
def regularFits (f : Frame) : Bool := decide (4 ≤ f.length)

/-- An undivided extended frame holds STX, marker, header, EXTLEN, ETX and CS (30_encoding R100; log 17). -/
def extendedFits (f : Frame) : Bool := decide (10 ≤ f.length)

/-- A divided frame holds the ten bytes of an extended one, FRAMENO and FRAMECOUNT (30_encoding R102; log 17). -/
def dividedFits (f : Frame) : Bool := decide (14 ≤ f.length)

/-- A later frame of a division: divided, or of the regular shape with its own header (40_frame_codec R142; log 17). -/
def laterFits (f : Frame) : Bool := if isExtended f then dividedFits f else decide (7 ≤ f.length)

/-- The domain of `parseDivided` (40_frame_codec R139, R142; log 17). -/
def dividedListFits : List Frame → Bool
  | [] => false
  | f0 :: rest => dividedFits f0 && rest.all laterFits

/-- A list whose first frame is regular: no frame of another shape and none too short (40_frame_codec R139,
93_implementation_defined U9; log 17). -/
def regularListFits : List Frame → Bool
  | [] => false
  | f0 :: rest => regularFits f0 && rest.all (fun f => !isExtended f && regularFits f)

/-- The domain of `parseFrames` (40_frame_codec R139; log 17). -/
def framesFit : List Frame → Bool
  | [] => false
  | f0 :: rest =>
    if isExtended f0 then
      if selectsDivided (!rest.isEmpty) (unbe (slice f0 5 8)) then dividedListFits (f0 :: rest) else extendedFits f0
    else regularListFits (f0 :: rest)

end Sys2Proof.Machine
end

