-- ==== Sys2Proof/Machine/FrameCodec.lean ====
section
/-! DEFINITION. The Frame Codec: pure functions from a payload to its frames and back (40_frame_codec). -/

namespace Sys2Proof.Machine

/-- A frame around its body, LEN or marker to ETX: STX before it, the checksum of the body after it (40_frame_codec
R138, 30_encoding R103). -/
def sealFrame (body : Bytes) : Frame := [Config.STX] ++ body ++ [Config.checksum body]

/-- The frame of `buildRegular` (40_frame_codec R132). -/
def regularFrame (p : Bytes) : Frame :=
  sealFrame ([BitVec.ofNat 8 (p.length + Config.lenBias)] ++ p ++ [Config.ETX])

/-- The frame of `buildExtended` (40_frame_codec R134): EXTLEN = d + 5. -/
def extendedFrame (p : Bytes) : Frame :=
  sealFrame ([Config.EXT_LEN] ++ p.take Config.hdr ++ be24 (p.length - Config.hdr + Config.extOverhead) ++
    p.drop Config.hdr ++ [Config.ETX])

/-- Number of frames of a divided message with `D` data bytes: `ceil(D / 1024)` (40_frame_codec R135, R151). -/
def frameCount (D : Nat) : Nat := (D + (Config.chunkMax - 1)) / Config.chunkMax

/-- Chunk `i` of the data (40_frame_codec R135). -/
def chunk (data : Bytes) (i : Nat) : Bytes := (data.drop (Config.chunkMax * i)).take Config.chunkMax

/-- Frame `i` of `n` of a divided message (40_frame_codec R136). -/
def dividedFrame (header data : Bytes) (n i : Nat) : Frame :=
  let c := chunk data i
  sealFrame ([Config.EXT_LEN] ++ flagHeader (if i + 1 = n then Config.DIV_LAST else Config.DIV_MORE) header ++
    be24 (c.length + Config.divOverhead) ++ be16 i ++ be16 n ++ c ++ [Config.ETX])

/-- The frames of `buildDivided` (40_frame_codec R135, R136). -/
def dividedFrames (p : Bytes) : List Frame :=
  let data := p.drop Config.hdr
  let n := frameCount data.length
  (List.range n).map (dividedFrame (p.take Config.hdr) data n)

/-- `buildRegular`, for sizes 0 to 251 (40_frame_codec R132, R133). For a larger payload no rule states the result: it
is a free value (log 16). -/
def buildRegular (p : Bytes) : List Frame :=
  if p.length ≤ Config.regMax then [regularFrame p] else Config.freeRegular p

/-- `buildExtended`, for sizes 252 to 1030 (40_frame_codec R134). For another size no rule states the result: it is a free
value (log 16). -/
def buildExtended (p : Bytes) : List Frame :=
  if Config.regMax < p.length ∧ p.length ≤ Config.extMax then [extendedFrame p] else Config.freeExtended p

/-- `buildDivided`, for sizes above 1030 (40_frame_codec R135, R136). For a smaller payload no rule states the result: it
is a free value (log 16). Above what FRAMECOUNT can number there is none (R133). -/
def buildDivided (p : Bytes) : Option (List Frame) :=
  if p.length ≤ Config.extMax then some (Config.freeDivided p)
  else if p.length ≤ Config.formatMax then some (dividedFrames p)
  else none

/-- `buildFrames`: the shape is chosen by size alone (40_frame_codec R130); a payload above what the format can carry has
no frames (R133). -/
def buildFrames (p : Bytes) : Option (List Frame) :=
  if p.length ≤ Config.regMax then some (buildRegular p)
  else if p.length ≤ Config.extMax then some (buildExtended p)
  else buildDivided p

/-- `parseRegular`: `f[2 .. L-2)` (40_frame_codec R140). -/
def parseRegular (f : Frame) : Option Bytes := if regularFits f then some (slice f 2 (f.length - 2)) else none

/-- `parseExtended`: `f[2 .. 5) ++ f[8 .. L-2)` (40_frame_codec R141). -/
def parseExtended (f : Frame) : Option Bytes :=
  if extendedFits f then some (slice f 2 5 ++ slice f 8 (f.length - 2)) else none

/-- What a later frame of a division contributes: `f[12 .. L-2)`, or `f[5 .. L-2)` when it has the regular shape
(40_frame_codec R142). -/
def laterData (f : Frame) : Bytes :=
  if isExtended f then slice f 12 (f.length - 2) else slice f 5 (f.length - 2)

/-- `parseDivided`: the header and the chunk of frame 0, then what the later frames contribute, in list order
(40_frame_codec R142). -/
def parseDivided (frames : List Frame) : Option Bytes :=
  match frames with
  | [] => none
  | f0 :: rest =>
    if dividedListFits (f0 :: rest) then
      some (slice f0 2 5 ++ slice f0 12 (f0.length - 2) ++ (rest.map laterData).flatten)
    else none

/-- `parseFrames`: the shape is taken from frame 0 by the receiver's own test (40_frame_codec R139). A list that mixes a
regular first frame with another shape, or holds a frame too short for its shape, has no payload (R139,
93_implementation_defined U9). -/
def parseFrames (frames : List Frame) : Option Bytes :=
  match frames with
  | [] => none
  | f0 :: rest =>
    if isExtended f0 then
      if selectsDivided (!rest.isEmpty) (unbe (slice f0 5 8)) then parseDivided (f0 :: rest) else parseExtended f0
    else if regularListFits (f0 :: rest) then parseRegular f0 else none

end Sys2Proof.Machine
end

