-- ==== Sys2Proof/Machine/Ops.lean ====
section
/-! DEFINITION. The named operations: the device, lock, timer and drain primitives (00_scope R16), the frame in
progress, how a call starts and ends, and the one operation that takes an event: every non-Pass event is the block's
exception (60_exceptions R300), entered and left by the transition tables (R305 to R308). -/

namespace Sys2Proof.Machine

/-! ### Device primitives. `none`: the call has not answered and the engine waits in it (43_orchestrator R269; log 2). -/

/-- What a read finds in the stream when it does not wait: the oldest byte, or none (20_memory R67, R72). -/
def readNow : Bytes → ReadResult Byte × Bytes
  | b :: bs => (.success b, bs)
  | [] => (.timeout, [])

/-- The bytes from which a successful read of `n` bytes takes its own: those of the input stream `inp`. DESIGN CHOICE: a
closed device may answer any status (60_exceptions R332, 93_implementation_defined U8), so where its stream holds fewer bytes the
answer brings the others (log 29). -/
def readable (isOpen : Bool) (n : Nat) (a : DevAnswer) (inp : Bytes) : Bytes :=
  if isOpen = true ∨ n ≤ inp.length then inp else (inp ++ a.stream).take n

/-- What the answer `a` makes of a one-byte read with deadline `t` on the input stream `inp` of a device that is open or
not (60_exceptions R333). A byte is taken only on success; after an error nothing is known of the stream. With deadline
zero the stream of an open device decides between the other two: a call that finds a byte takes it and one that finds none
answers Timeout at once (20_memory R67, R72; log 3). A closed device answers Timeout as the environment chooses, at
deadline zero too and whatever its stream holds: R72 ends a drain on an empty stream only, R332 lets a closed device answer
any status, and the model follows R332 there (DESIGN CHOICE, log 29). -/
def read1 (isOpen : Bool) (t : Config.Deadline) (a : DevAnswer) (inp : Bytes) : Option (ReadResult Byte × Bytes) :=
  match a.status with
  | .error => some (.error, a.stream)
  | .timeout => if isOpen = true ∧ t = some 0 then some (readNow inp) else some (.timeout, inp)
  | .success => if t = some 0 ∨ readable isOpen 1 a inp ≠ [] then some (readNow (readable isOpen 1 a inp)) else none

/-- `DevRead1(t)` (60_exceptions R333). -/
def devRead1 (t : Config.Deadline) (s : State) : Option (ReadResult Byte × State) :=
  match s.answers with
  | [] => none
  | a :: rest =>
    match read1 s.deviceOpen t a s.devIn with
    | none => none
    | some (r, inp) => some (r, { s with answers := rest, devIn := inp })

/-- The next read of `Drain()` (20_memory R72): a one-byte read with deadline `T_DRAIN`. The drain goes on while it
gives a byte and ends when it answers Timeout or Error. An open device answers Timeout only when its stream is empty (R67,
R76); a closed one when the environment says so (60_exceptions R332, log 29). -/
def drainRead (s : State) : Option (ReadResult Byte × State) := devRead1 Config.tDrain s

/-- `DevReadN(n, t)` (60_exceptions R334). On a timeout the environment says how many of the oldest bytes are lost: the
stream is then a suffix of what it was (93_implementation_defined U7; log 3). Of a closed device see `readable`. -/
def devReadN (n : Nat) (t : Config.Deadline) (s : State) : Option (ReadResult Bytes × State) :=
  match s.answers with
  | [] => none
  | a :: rest =>
    match a.status with
    | .error => some (.error, { s with answers := rest, devIn := a.stream })
    | .timeout => some (.timeout, { s with answers := rest, devIn := s.devIn.drop a.count })
    | .success =>
      let bs := readable s.deviceOpen n a s.devIn
      if n ≤ bs.length then some (.success (bs.take n), { s with answers := rest, devIn := bs.drop n })
      else if t = some 0 then some (.timeout, { s with answers := rest, devIn := s.devIn.drop a.count })
      else none

/-- `DevWrite(bs)` (60_exceptions R335): a status and the number `k` of bytes written, the first `k` of `bs`. -/
def devWrite (bs : Bytes) (s : State) : Option ((DevStatus × Nat) × State) :=
  match s.answers with
  | [] => none
  | a :: rest =>
    let k := min a.count bs.length
    some ((a.status, k), { s with answers := rest, devOut := s.devOut ++ bs.take k })

/-- `DevPoll(t)` (60_exceptions R336): a status; it consumes no byte. -/
def devPoll (_t : Config.Deadline) (s : State) : Option (DevStatus × State) :=
  match s.answers with
  | [] => none
  | a :: rest => some (a.status, { s with answers := rest })

/-- `DevOpen(mode)` (60_exceptions R331): the device is open or not as the environment answers, and its input stream is
any value (93_implementation_defined U8). The result is the device's, no rule looks at it. -/
def devOpen (_mode : Nat) (s : State) : Option State :=
  match s.answers with
  | [] => none
  | a :: rest => some { s with answers := rest, deviceOpen := a.opened, devIn := a.stream }

/-- `DevClose()` (60_exceptions R332): from here to the next open every call answers as the environment chooses
(93_implementation_defined U8). DESIGN CHOICE: the spec does not say whether a close discards pending input; here the input
stream stays as it is until the next open, after which it is any value (log 28). -/
def devClose (s : State) : State := { s with deviceOpen := false }

/-! ### Lock and timer -/

/-- `LockAcquire(e)` (10_state R40): `none` while the other engine owns the lock. -/
def lockAcquire (e : Engine) (s : State) : Option State :=
  match s.lockOwner with
  | none => some { s with lockOwner := some e }
  | some o => if o = e then some s else none

/-- `LockRelease(e)` (10_state R40, 70_reset_and_hazards R376): no effect when `e` is not the owner. -/
def lockRelease (e : Engine) (s : State) : State :=
  { s with lockOwner := if s.lockOwner = some e then none else s.lockOwner }

/-- `Sleep(t)`: a step without effect on state (60_exceptions R314, decision D2). -/
def sleep (_t : Nat) (s : State) : State := s

/-! ### Events: taking an exception and returning from one -/

/-- The action of send state `st` ends by emitting `ev`: the event register is written and the state register takes the
table's entry (41_send_fsm R161, R162). With an event other than `Pass` this is entry to a recovery path; nothing is
saved (60_exceptions R300, R305). With the `Pass` of `retry` or `wait` it is the return from one (R306). The next action
is at its start (log 13). -/
def sendEmit (st : SendState) (ev : Event) (s : State) : State :=
  { s with sEvent := ev, sState := (tSend st ev).getD s.sState, sPhase := .start }

/-- The action of receive state `st` ends by emitting `ev` (42_receive_fsm R201, R202; 60_exceptions R307, R308). -/
def recvEmit (st : RecvState) (ev : Event) (s : State) : State :=
  { s with rEvent := ev, rState := (tRecv st ev).getD s.rState, rPhase := .start }

/-! ### The frame in progress -/

/-- Append bytes to `RXF[M-1]` (10_state R30). -/
def rxAppend (bs : Bytes) (s : State) : State :=
  { s with rxf := s.rxf.dropLast ++ [s.rxf.getLastD [] ++ bs] }

/-- Empty `RXF[M-1]` (42_receive_fsm R221). -/
def rxClear (s : State) : State := { s with rxf := s.rxf.dropLast ++ [[]] }

/-- Append an empty buffer to `RXF` (42_receive_fsm R222). -/
def rxNewBuffer (s : State) : State := { s with rxf := s.rxf ++ [[]] }

/-- What `CS` is computed over in receive `cs`: everything buffered but STX (42_receive_fsm R218). -/
def rxBody (s : State) : Bytes := (s.rxf.getLastD []).drop 1

/-- The number of bytes receive `data` reads (42_receive_fsm R216); `none` where the rule gives none. -/
def rxDataCount (s : State) : Option Nat :=
  match s.rxShape with
  | .regular => if Config.regOverhead ≤ s.rxLen.toNat then some (s.rxLen.toNat - Config.regOverhead) else none
  | .extended => if Config.extOverhead ≤ s.rxLen.toNat then some (s.rxLen.toNat - Config.extOverhead) else none
  | .divided => if Config.divOverhead ≤ s.rxLen.toNat then some (s.rxLen.toNat - Config.divOverhead) else none
  | .none | .extPending => none

/-! ### Calls -/

/-- A call is in progress (10_state R23). -/
def callInProgress (s : State) : Bool := s.sRun || s.rRun

/-- The orchestrator starts a `send` with the frames of its payload (43_orchestrator R262, 10_state R47). -/
def startSend (p : Bytes) (fs : List Frame) (s : State) : State :=
  { s with
    txPayload := p, txf := fs, txCursor := 0, txOk := false, sState := .idle, sRun := true, sPhase := .start,
    sEvent := Config.freeEvent s.freeCount, freeCount := s.freeCount + 1 }

/-- The orchestrator starts a `receive` (43_orchestrator R264, 10_state R47). -/
def startReceive (s : State) : State :=
  { s with
    rxf := [[]], rxShape := .none, rxOk := false, rxPayload := none, rState := .idle, rRun := true, rPhase := .start,
    rxLen := Config.freeLen s.freeCount, rxFrameNo := Config.freeFrameNo s.freeCount,
    rxFrameCnt := Config.freeFrameCnt s.freeCount, rEvent := Config.freeEvent s.freeCount,
    freeCount := s.freeCount + 1 }

/-- The host port answers (43_orchestrator R260; log 19). -/
def respond (r : HostResponse) (s : State) : State := { s with hostOut := s.hostOut ++ [r] }

/-- A call has ended: its result waits for the host to collect it (43_orchestrator R269; log 19). -/
def callReturns (r : HostResponse) (s : State) : State := { s with returns := s.returns ++ [r] }

/-- The host collects the result number `k` (43_orchestrator R269; log 19). -/
def collect (k : Nat) (s : State) : State :=
  match s.returns[k]? with
  | some r => respond r { s with returns := s.returns.eraseIdx k }
  | none => s

/-- A `send` call has ended: `s_run` falls and the Transmit Context is discarded, its registers and `s_state` hold no
defined value (41_send_fsm R175, 10_state R46, 93_implementation_defined U12; log 12). Nor does the host-side register
`tx_payload`: the block keeps nothing from a failed call except the counter (43_orchestrator R271), besides the flag
`tx_ok` that the host may read (R46), and of a call that succeeded the spec gives the register no value either
(log 27). -/
def endSend (s : State) : State :=
  { s with
    sRun := false, sPhase := .start, sState := Config.freeSendState s.freeCount,
    sEvent := Config.freeEvent s.freeCount, txf := Config.freeFrames s.freeCount,
    txPayload := Config.freePayload s.freeCount, txCursor := Config.freeCursor s.freeCount, freeCount := s.freeCount + 1 }

/-- A `receive` call has ended: `r_run` falls and the Receive Context is discarded (42_receive_fsm R224, 10_state R46,
93_implementation_defined U12; log 12). -/
def endReceive (s : State) : State :=
  { s with
    rRun := false, rPhase := .start, rState := Config.freeRecvState s.freeCount,
    rEvent := Config.freeEvent s.freeCount, rxf := Config.freeFrames s.freeCount,
    rxShape := Config.freeShape s.freeCount, rxLen := Config.freeLen s.freeCount,
    rxFrameNo := Config.freeFrameNo s.freeCount, rxFrameCnt := Config.freeFrameCnt s.freeCount,
    freeCount := s.freeCount + 1 }

/-- The registers of a transport that has just been constructed (43_orchestrator R261, 10_state R47): those of
`State.reset`; the environment, the inputs and the outputs stay. -/
def freshTransport (s : State) : State :=
  { State.reset with
    devIn := s.devIn, devOut := s.devOut, deviceOpen := s.deviceOpen, returns := s.returns, hostOut := s.hostOut,
    fcOut := s.fcOut, turns := s.turns, answers := s.answers, freeCount := s.freeCount }

/-- `r2` as the host reads it: the value of the last completed action (43_orchestrator R267). In the middle of send
`retry` the register already holds this action's increment. -/
def visibleR2 (s : State) : BitVec 8 :=
  match s.sState, s.sPhase with
  | .retry, .sleep | .retry, .close | .retry, .reopen => if s.sRun then s.r2 - 1 else s.r2
  | _, _ => s.r2

/-- A wire unit or raw bytes arrive from the peer: they join `DEV_IN` (20_memory R71, R75; log 4). -/
def arrive (bs : Bytes) (s : State) : State := { s with devIn := s.devIn ++ bs }

end Sys2Proof.Machine
end

