-- ==== Sys2Proof/Machine/CodecOps.lean ====
section
/-! DEFINITION. The codec operations asked by themselves (40_frame_codec R130 to R144): they read nothing but the
operand and `CS` and write nothing but the result, which the model keeps in `fcOut` (log 16). -/

namespace Sys2Proof.Machine

/-- The result of a build operation; a payload for which there is none is refused (40_frame_codec R133). -/
def buildResult (r : Option (List Frame)) (s : State) : Host.Outcome State Fault Refusal :=
  match r with
  | some fs => .next { s with fcOut := .frames fs }
  | none => .refused .codecDomain

/-- The result of a parse operation; a list outside its domain is refused (40_frame_codec R139). -/
def parseResult (r : Option Bytes) (s : State) : Host.Outcome State Fault Refusal :=
  match r with
  | some p => .next { s with fcOut := .payload p }
  | none => .refused .parseDomain

/-- 40_frame_codec R130; a payload above MAX_PAYLOAD is refused (R133). -/
def execBuildFrames (p : Bytes) (s : State) : Host.Outcome State Fault Refusal :=
  if p.length ≤ Config.maxPayload then buildResult (buildFrames p) s else .refused .codecDomain

/-- 40_frame_codec R132. -/
def execBuildRegular (p : Bytes) (s : State) : Host.Outcome State Fault Refusal := buildResult (some (buildRegular p)) s

/-- 40_frame_codec R134. -/
def execBuildExtended (p : Bytes) (s : State) : Host.Outcome State Fault Refusal :=
  buildResult (some (buildExtended p)) s

/-- 40_frame_codec R135, R136; a payload above what the format can carry is refused (R133). -/
def execBuildDivided (p : Bytes) (s : State) : Host.Outcome State Fault Refusal := buildResult (buildDivided p) s

/-- 40_frame_codec R139. -/
def execParseFrames (fs : List Frame) (s : State) : Host.Outcome State Fault Refusal := parseResult (parseFrames fs) s

/-- 40_frame_codec R140. -/
def execParseRegular (f : Frame) (s : State) : Host.Outcome State Fault Refusal := parseResult (parseRegular f) s

/-- 40_frame_codec R141. -/
def execParseExtended (f : Frame) (s : State) : Host.Outcome State Fault Refusal := parseResult (parseExtended f) s

/-- 40_frame_codec R142. -/
def execParseDivided (fs : List Frame) (s : State) : Host.Outcome State Fault Refusal :=
  parseResult (parseDivided fs) s

end Sys2Proof.Machine
end

