-- ==== Sys2Proof/Machine/HostOps.lean ====
section
/-! DEFINITION. The host operations (43_orchestrator R260 to R268). -/

namespace Sys2Proof.Machine

/-- 43_orchestrator R261, 70_reset_and_hazards R350: the registers take their reset values and the device is opened,
its result not recorded. No reset acts while a call is in progress (log 15). -/
def execConstruct (s : State) : Host.Outcome State Fault Refusal :=
  if callInProgress s then .refused .constructDuringCall
  else
    match devOpen Config.openMode s with
    | none => .next s
    | some s' => .next (respond .constructed (freshTransport s'))

/-- 43_orchestrator R262, R263, R268: a payload of 3 to MAX_PAYLOAD bytes starts a call; while one is in progress the
request is held. -/
def execSend (p : Bytes) (s : State) : Host.Outcome State Fault Refusal :=
  if s.constructed then
    if p.length < Config.hdr ∨ Config.maxPayload < p.length then .refused .payloadSize
    else
      match buildFrames p with
      | none => .refused .payloadSize
      | some fs => if s.sRun then .next { s with heldSends := s.heldSends ++ [p] } else .next (startSend p fs s)
  else .refused .transportDestructed

/-- 43_orchestrator R264, R268: a call starts; while one is in progress the request is held. -/
def execReceive (s : State) : Host.Outcome State Fault Refusal :=
  if s.constructed then
    if s.rRun then .next { s with heldReceives := s.heldReceives + 1 } else .next (startReceive s)
  else .refused .transportDestructed

/-- 43_orchestrator R266, 70_reset_and_hazards R355: the device is closed; with a call in progress the operation has no
meaning (93_implementation_defined U14; log 15). -/
def execDestruct (s : State) : Host.Outcome State Fault Refusal :=
  if s.constructed then
    if callInProgress s then .refused .destructDuringCall
    else .next (respond .destructed { devClose s with constructed := false })
  else .refused .transportDestructed

/-- 43_orchestrator R267: the counters are read, at any time, without side effect; while an engine runs, as the last
completed action left them. -/
def execReadCounters (s : State) : Host.Outcome State Fault Refusal :=
  if s.constructed then .next (respond (.counters s.r1 (visibleR2 s)) s) else .refused .transportDestructed

end Sys2Proof.Machine
end

