-- ==== Sys2Proof/Machine/RecvEngine.lean ====
section
/-! DEFINITION. The actions of the nineteen receive states (42_receive_fsm R205 to R224), each the next primitive of the
action (43_orchestrator R269): `rPhase` says which one is next in `poll` and `enquiry` (log 13). A primitive that has not
answered, or that waits for the lock, leaves the state as it is (log 2). -/

namespace Sys2Proof.Machine

/-! ### Shared by several actions -/

/-- `FieldN(n)` (42_receive_fsm R204): a timed read whose timeout or error ends the action of `st` with `Fail`; the
bytes are appended to the frame in progress and handed to `k`. -/
def fieldN (st : RecvState) (n : Nat) (k : Bytes → State → State) (s : State) : Host.Outcome State Fault Refusal :=
  if s.rxf = [] then .fault .noReceiveBuffer
  else
    match devReadN n Config.tField s with
    | none => .next s
    | some (.success bs, s') => .next (k bs (rxAppend bs s'))
    | some (_, s') => .next (recvEmit st .fail s')

/-- `Field1()` (42_receive_fsm R204): as `fieldN`, one byte. -/
def field1 (st : RecvState) (k : Byte → State → State) (s : State) : Host.Outcome State Fault Refusal :=
  if s.rxf = [] then .fault .noReceiveBuffer
  else
    match devRead1 Config.tField s with
    | none => .next s
    | some (.success b, s') => .next (k b (rxAppend [b] s'))
    | some (_, s') => .next (recvEmit st .fail s')

/-- Write one control byte and end the action of `st` with the event of the result (60_exceptions R335). -/
def recvWrite (st : RecvState) (b : Byte) (s : State) : Host.Outcome State Fault Refusal :=
  match devWrite [b] s with
  | none => .next s
  | some (r, s') => .next (recvEmit st (classifyRecvWrite 1 r) s')

/-- What `len` does with its byte (42_receive_fsm R211). -/
def lenByte (b : Byte) (s : State) : State :=
  if b = Config.EXT_LEN then recvEmit .len .pass { s with rxShape := .extPending }
  else if Config.regLenMin ≤ b.toNat ∧ b.toNat ≤ Config.regLenMax then
    recvEmit .len .pass { s with rxShape := .regular, rxLen := b.setWidth 24 }
  else recvEmit .len .deny s

/-- What `dataextlen` does with its three bytes: the shape is selected first, the range of that shape tested second
(42_receive_fsm R213, R214; 60_exceptions R312). -/
def extLenBytes (bs : Bytes) (s : State) : State :=
  let v := unbe bs
  let s1 := { s with rxLen := BitVec.ofNat 24 v }
  if selectsDivided s.midDivision v then
    if v < Config.divOverhead ∨ Config.divOverhead + Config.chunkMax < v then recvEmit .dataextlen .deny s1
    else recvEmit .dataextlen .pass { s1 with rxShape := .divided }
  else if v < Config.extOverhead then recvEmit .dataextlen .deny s1
  else recvEmit .dataextlen .pass { s1 with rxShape := .extended }

/-- What `dataframenumber` does with its four bytes: FRAMENO, then FRAMECOUNT, not checked (42_receive_fsm R215). -/
def frameNumberBytes (bs : Bytes) (s : State) : State :=
  recvEmit .dataframenumber .pass
    { s with
      rxFrameNo := BitVec.ofNat 16 (unbe (slice bs 0 2)), rxFrameCnt := BitVec.ofNat 16 (unbe (slice bs 2 4)) }

/-! ### The actions -/

/-- 42_receive_fsm R205. -/
def execRIdle (s : State) : Host.Outcome State Fault Refusal := .next (recvEmit .idle .pass { s with r1 := 0 })

/-- 42_receive_fsm R206: the poll is made without the lock; then the lock is taken, or waited for. -/
def execRPoll (s : State) : Host.Outcome State Fault Refusal :=
  match s.rPhase with
  | .lock =>
    match lockAcquire .recv s with
    | none => .next s
    | some s' => .next (recvEmit .poll .pass s')
  | _ =>
    match devPoll Config.tPoll s with
    | none => .next s
    | some (.success, s') => .next { s' with rPhase := .lock }
    | some (_, s') => .next (recvEmit .poll .fail s')

/-- 42_receive_fsm R207: no sleep (conflict C7). -/
def execRRepoll (s : State) : Host.Outcome State Fault Refusal :=
  .next (recvEmit .repoll .pass (lockRelease .recv s))

/-- 42_receive_fsm R208: drain, a read at a time, and classify the last byte. -/
def execREnquiry (s : State) : Host.Outcome State Fault Refusal :=
  match drainRead s with
  | none => .next s
  | some (.success b, s') => .next { s' with rPhase := .drained b }
  | some (.timeout, s') => .next (recvEmit .enquiry (classifyDrain (drainSoFar s.rPhase)) s')
  | some (.error, s') => .next (recvEmit .enquiry (classifyDrain .error) s')

/-- 42_receive_fsm R209. -/
def execRAck (s : State) : Host.Outcome State Fault Refusal := recvWrite .ack Config.ACK s

/-- 42_receive_fsm R210. -/
def execRStx (s : State) : Host.Outcome State Fault Refusal :=
  field1 .stx (fun b s' => recvEmit .stx (classifyExpected Config.STX b) s') s

/-- 42_receive_fsm R211. -/
def execRLen (s : State) : Host.Outcome State Fault Refusal := field1 .len lenByte s

/-- 42_receive_fsm R212: command, sub-command and codebit, stored and not examined. -/
def execRDatacmd (s : State) : Host.Outcome State Fault Refusal :=
  fieldN .datacmd Config.hdr (fun _ s' => recvEmit .datacmd .pass s') s

/-- 42_receive_fsm R213: skipped for the regular shape. -/
def execRDataextlen (s : State) : Host.Outcome State Fault Refusal :=
  if s.rxShape = .regular then .next (recvEmit .dataextlen .pass s) else fieldN .dataextlen 3 extLenBytes s

/-- 42_receive_fsm R215: skipped unless the shape is divided. -/
def execRDataframenumber (s : State) : Host.Outcome State Fault Refusal :=
  if s.rxShape = .divided then fieldN .dataframenumber 4 frameNumberBytes s
  else .next (recvEmit .dataframenumber .pass s)

/-- 42_receive_fsm R216: no device access when there is nothing to read. -/
def execRData (s : State) : Host.Outcome State Fault Refusal :=
  match rxDataCount s with
  | none => .fault .noDataCount
  | some 0 => .next (recvEmit .data .pass s)
  | some (n + 1) => fieldN .data (n + 1) (fun _ s' => recvEmit .data .pass s') s

/-- 42_receive_fsm R217. -/
def execREtx (s : State) : Host.Outcome State Fault Refusal :=
  field1 .etx (fun b s' => recvEmit .etx (classifyExpected Config.ETX b) s') s

/-- 42_receive_fsm R218: the read status is examined before the comparison; a missed deadline is a denial here. -/
def execRCs (s : State) : Host.Outcome State Fault Refusal :=
  if s.rxf = [] then .fault .noReceiveBuffer
  else
    match devRead1 Config.tField s with
    | none => .next s
    | some (.success b, s') =>
      .next (recvEmit .cs (classifyExpected (Config.checksum (rxBody s)) b) (rxAppend [b] s'))
    | some (.timeout, s') => .next (recvEmit .cs .deny s')
    | some (.error, s') => .next (recvEmit .cs .fail s')

/-- 42_receive_fsm R219. -/
def execRAck2 (s : State) : Host.Outcome State Fault Refusal := recvWrite .ack2 Config.ACK s

/-- 42_receive_fsm R220. -/
def execRNak (s : State) : Host.Outcome State Fault Refusal := recvWrite .nak Config.NAK s

/-- 42_receive_fsm R221: the increment and the clearing come before the ceiling test (60_exceptions R312). -/
def execRRetry (s : State) : Host.Outcome State Fault Refusal :=
  if s.rxf = [] then .fault .noReceiveBuffer
  else
    let s1 := { rxClear s with r1 := s.r1 + 1, rxShape := .none }
    if s.r1.toNat + 1 < Config.recvRetryLimit then .next (recvEmit .retry .pass s1)
    else .next (recvEmit .retry .fail s1)

/-- 42_receive_fsm R222: the continuation test comes before the success mark. -/
def execRDone (s : State) : Host.Outcome State Fault Refusal :=
  if s.moreDivided then .next (recvEmit .done .wait { rxNewBuffer s with rxShape := .none })
  else .next (recvEmit .done .pass { s with rxOk := true })

/-- 42_receive_fsm R223. -/
def execRError (s : State) : Host.Outcome State Fault Refusal :=
  .next (recvEmit .error .pass { s with rxOk := false })

/-- 42_receive_fsm R224: the lock is released, the call ends, and on success the orchestrator reassembles the payload
(43_orchestrator R264, R265); the host collects the result (R269). -/
def execREnd (s : State) : Host.Outcome State Fault Refusal :=
  let s1 := lockRelease .recv s
  if s.rxOk then
    match parseFrames s.rxf with
    | some p => .next (callReturns (.receiveResult true (some p)) { endReceive s1 with rxPayload := some p })
    | none => .refused .parseDomain
  else .next (callReturns (.receiveResult false none) { endReceive s1 with rxPayload := none })

end Sys2Proof.Machine
end

