-- ==== Sys2Proof/Machine/SendEngine.lean ====
section
/-! DEFINITION. The actions of the twelve send states (41_send_fsm R164 to R175), each the next primitive of the action
(43_orchestrator R269): the action ends with the primitive that emits its event, and `sPhase` says which one is next
(log 13). A primitive that has not answered, or that waits for the lock, leaves the state as it is (log 2). -/

namespace Sys2Proof.Machine

/-! ### Shared by several actions -/

/-- `AnswerWait` (41_send_fsm R163), ending the action of `st`. One byte is consumed when the read succeeds and none
otherwise, after an error too. -/
def answerWait (st : SendState) (s : State) : Host.Outcome State Fault Refusal :=
  match devRead1 Config.tField s with
  | none => .next s
  | some (.error, s') => .next (sendEmit st (classifyAnswer .error) { s' with devIn := s.devIn })
  | some (r, s') => .next (sendEmit st (classifyAnswer r) s')

/-- Write `bs` and end the action of `st` with the event of the result (60_exceptions R335). -/
def sendWrite (st : SendState) (bs : Bytes) (s : State) : Host.Outcome State Fault Refusal :=
  match devWrite bs s with
  | none => .next s
  | some (r, s') => .next (sendEmit st (classifySendWrite bs.length r) s')

/-! ### The actions -/

/-- 41_send_fsm R164. -/
def execSIdle (s : State) : Host.Outcome State Fault Refusal := .next (sendEmit .idle .pass { s with r2 := 0 })

/-- 41_send_fsm R165: the lock is acquired, or the engine waits for it. -/
def execSEnquiry (s : State) : Host.Outcome State Fault Refusal :=
  match lockAcquire .send s with
  | none => .next s
  | some s' => .next (sendEmit .enquiry .pass s')

/-- 41_send_fsm R166: drain, a read at a time, the bytes not looked at; then write ENQ. -/
def execSReenquiry (s : State) : Host.Outcome State Fault Refusal :=
  match s.sPhase with
  | .write => sendWrite .reenquiry [Config.ENQ] s
  | _ =>
    match drainRead s with
    | none => .next s
    | some (.success _, s') => .next s'
    | some (.timeout, s') => .next { s' with sPhase := .write }
    | some (.error, s') => .next (sendEmit .reenquiry .fail s')

/-- 41_send_fsm R167. -/
def execSAck (s : State) : Host.Outcome State Fault Refusal := answerWait .ack s

/-- 41_send_fsm R168: the frame at the cursor is handed to the device in one call. -/
def execSFrame (s : State) : Host.Outcome State Fault Refusal :=
  match s.txf[s.txCursor.toNat]? with
  | none => .fault .txCursorOutOfRange
  | some f => sendWrite .frame f s

/-- 41_send_fsm R169. -/
def execSAck2 (s : State) : Host.Outcome State Fault Refusal := answerWait .ack2 s

/-- 41_send_fsm R170. The increment comes first, the ceiling test second and the reopen test only below the ceiling
(60_exceptions R312); then the lock is released, the engine sleeps and, when it is due, the device is closed and opened
with the lock free (70_reset_and_hazards R367). -/
def execSRetry (s : State) : Host.Outcome State Fault Refusal :=
  match s.sPhase with
  | .sleep =>
    let s1 := sleep Config.tBackoff s
    if s.r2.toNat % Config.reopenPeriod = 0 then .next { s1 with sPhase := .close }
    else .next (sendEmit .retry .pass s1)
  | .close => .next { devClose s with sPhase := .reopen }
  | .reopen =>
    match devOpen Config.openMode s with
    | none => .next s
    | some s' => .next (sendEmit .retry .pass s')
  | _ =>
    let s1 := { s with r2 := s.r2 + 1 }
    if s.r2.toNat + 1 < Config.sendRetryLimit then .next { lockRelease .send s1 with sPhase := .sleep }
    else .next (sendEmit .retry .fail s1)

/-- 41_send_fsm R171. -/
def execSNak (s : State) : Host.Outcome State Fault Refusal := sendWrite .nak [Config.NAK] s

/-- 41_send_fsm R172: the lock is released, then the engine sleeps. -/
def execSWait (s : State) : Host.Outcome State Fault Refusal :=
  match s.sPhase with
  | .sleep => .next (sendEmit .wait .pass (sleep Config.tBackoff s))
  | _ => .next { lockRelease .send s with sPhase := .sleep }

/-- 41_send_fsm R173: the continuation test comes before the success mark. -/
def execSDone (s : State) : Host.Outcome State Fault Refusal :=
  if s.txMore then .next (sendEmit .done .wait { s with txCursor := s.txCursor + 1 })
  else .next (sendEmit .done .pass { s with txOk := true })

/-- 41_send_fsm R174. -/
def execSError (s : State) : Host.Outcome State Fault Refusal :=
  .next (sendEmit .error .pass { s with txOk := false })

/-- 41_send_fsm R175: the lock is released, the call ends and its result is `tx_ok` (43_orchestrator R262), which the
host collects (R269). -/
def execSEnd (s : State) : Host.Outcome State Fault Refusal :=
  .next (callReturns (.sendResult s.txOk) (endSend (lockRelease .send s)))

end Sys2Proof.Machine
end

