-- ==== Sys2Proof/Syntax.lean ====
section
/-! DEFINITION. The instructions: one constructor for each row of spec/opcode_table.json (00_scope R9). -/

namespace Sys2Proof

/-- One constructor per row of spec/opcode_table.json. The operands of a frame are its fields as they stand on the
wire: `cb` is the codebit with its division flags, `cs` the checksum byte, right or wrong. -/
inductive Instr where
  /-- 30_encoding R91 -/
  | enq
  /-- 30_encoding R92 -/
  | ack
  /-- 30_encoding R93 -/
  | nak
  /-- 30_encoding R94 -/
  | stx
  /-- 30_encoding R94 -/
  | etx
  /-- 30_encoding R94, R95 -/
  | extLen
  /-- 30_encoding R98 -/
  | frameReg (cmd sub cb : Byte) (data : Bytes) (cs : Byte)
  /-- 30_encoding R100 -/
  | frameExt (cmd sub cb : Byte) (data : Bytes) (cs : Byte)
  /-- 30_encoding R102: the division flags of the codebit are 10 -/
  | frameDivMore (cmd sub cb : Byte) (frameNo frameCount : BitVec 16) (chunk : Bytes) (cs : Byte)
  /-- 30_encoding R102: the division flags of the codebit are 11 -/
  | frameDivLast (cmd sub cb : Byte) (frameNo frameCount : BitVec 16) (chunk : Bytes) (cs : Byte)
  /-- 41_send_fsm R164 -/
  | sIdle
  /-- 41_send_fsm R165 -/
  | sEnquiry
  /-- 41_send_fsm R166 -/
  | sReenquiry
  /-- 41_send_fsm R167 -/
  | sAck
  /-- 41_send_fsm R168 -/
  | sFrame
  /-- 41_send_fsm R169 -/
  | sAck2
  /-- 41_send_fsm R170 -/
  | sRetry
  /-- 41_send_fsm R171 -/
  | sNak
  /-- 41_send_fsm R172 -/
  | sWait
  /-- 41_send_fsm R173 -/
  | sDone
  /-- 41_send_fsm R174 -/
  | sError
  /-- 41_send_fsm R175 -/
  | sEnd
  /-- 42_receive_fsm R205 -/
  | rIdle
  /-- 42_receive_fsm R206 -/
  | rPoll
  /-- 42_receive_fsm R207 -/
  | rRepoll
  /-- 42_receive_fsm R208 -/
  | rEnquiry
  /-- 42_receive_fsm R209 -/
  | rAck
  /-- 42_receive_fsm R210 -/
  | rStx
  /-- 42_receive_fsm R211 -/
  | rLen
  /-- 42_receive_fsm R212 -/
  | rDatacmd
  /-- 42_receive_fsm R213 -/
  | rDataextlen
  /-- 42_receive_fsm R215 -/
  | rDataframenumber
  /-- 42_receive_fsm R216 -/
  | rData
  /-- 42_receive_fsm R217 -/
  | rEtx
  /-- 42_receive_fsm R218 -/
  | rCs
  /-- 42_receive_fsm R219 -/
  | rAck2
  /-- 42_receive_fsm R220 -/
  | rNak
  /-- 42_receive_fsm R221 -/
  | rRetry
  /-- 42_receive_fsm R222 -/
  | rDone
  /-- 42_receive_fsm R223 -/
  | rError
  /-- 42_receive_fsm R224 -/
  | rEnd
  /-- 40_frame_codec R130 -/
  | buildFrames (payload : Bytes)
  /-- 40_frame_codec R132 -/
  | buildRegular (payload : Bytes)
  /-- 40_frame_codec R134 -/
  | buildExtended (payload : Bytes)
  /-- 40_frame_codec R135, R136 -/
  | buildDivided (payload : Bytes)
  /-- 40_frame_codec R139 -/
  | parseFrames (frames : List Frame)
  /-- 40_frame_codec R140 -/
  | parseRegular (frame : Frame)
  /-- 40_frame_codec R141 -/
  | parseExtended (frame : Frame)
  /-- 40_frame_codec R142 -/
  | parseDivided (frames : List Frame)
  /-- 43_orchestrator R261 -/
  | construct
  /-- 43_orchestrator R262 -/
  | send (payload : Bytes)
  /-- 43_orchestrator R264 -/
  | receive
  /-- 43_orchestrator R266 -/
  | destruct
  /-- 43_orchestrator R267 -/
  | readCounters
  deriving DecidableEq, Repr

end Sys2Proof
end

