-- ==== Sys2Proof/WellFormed.lean ====
section
/-! DEFINITION. Which instructions are well formed: the ranges the encodings admit (30_encoding R97, R105, R109) and
the domains of the codec and of `send` (40_frame_codec R130 to R142, 43_orchestrator R263). -/

namespace Sys2Proof

open Machine in
/-- A well-formed instruction: every operand is in the range its rule gives it. -/
def Instr.wellFormed : Instr → Bool
  | .frameReg _ _ _ data _ => decide (data.length + Config.regOverhead ≤ Config.regLenMax)
  | .frameExt _ _ _ data _ => decide (data.length + Config.extOverhead ≤ Config.divThreshold)
  | .frameDivMore _ _ cb _ _ chunk _ => decide (chunk.length ≤ Config.chunkMax) && flagsMore cb
  | .frameDivLast _ _ cb _ _ chunk _ => decide (chunk.length ≤ Config.chunkMax) && flagsLast cb
  | .buildFrames p => decide (p.length ≤ Config.maxPayload)
  | .buildRegular p => decide (p.length ≤ Config.regMax)
  | .buildExtended p => decide (Config.regMax < p.length) && decide (p.length ≤ Config.extMax)
  | .buildDivided p => decide (Config.extMax < p.length) && decide (p.length ≤ Config.formatMax)
  | .parseFrames fs => framesFit fs
  | .parseRegular f => regularFits f
  | .parseExtended f => extendedFits f
  | .parseDivided fs => dividedListFits fs
  | .send p => decide (Config.hdr ≤ p.length) && decide (p.length ≤ Config.maxPayload)
  | .enq | .ack | .nak | .stx | .etx | .extLen => true
  | .sIdle | .sEnquiry | .sReenquiry | .sAck | .sFrame | .sAck2 | .sRetry | .sNak | .sWait | .sDone | .sError
  | .sEnd => true
  | .rIdle | .rPoll | .rRepoll | .rEnquiry | .rAck | .rStx | .rLen | .rDatacmd | .rDataextlen | .rDataframenumber
  | .rData | .rEtx | .rCs | .rAck2 | .rNak | .rRetry | .rDone | .rError | .rEnd => true
  | .construct | .receive | .destruct | .readCounters => true

end Sys2Proof
end

