-- ==== Sys2Proof/Decode.lean ====
section
/-! DEFINITION. The decoder, total on any bytes and any request, rejecting by name, and the encoder (30_encoding R90 to
R113; 10_state R25 and 60_exceptions R301 for the ordinals). -/

namespace Sys2Proof

open Machine

/-! ### The ordinals of states and events (10_state R25) -/

/-- The ordinal of a send state (10_state R25). -/
def sendOrdinal : SendState → BitVec 4
  | .idle => 0 | .enquiry => 1 | .reenquiry => 2 | .ack => 3 | .frame => 4 | .ack2 => 5 | .retry => 6 | .nak => 7
  | .wait => 8 | .done => 9 | .error => 10 | .end_ => 11

/-- The ordinal of a receive state (10_state R25). -/
def recvOrdinal : RecvState → BitVec 5
  | .idle => 0 | .poll => 1 | .repoll => 2 | .enquiry => 3 | .ack => 4 | .stx => 5 | .len => 6 | .datacmd => 7
  | .dataextlen => 8 | .dataframenumber => 9 | .data => 10 | .etx => 11 | .cs => 12 | .ack2 => 13 | .nak => 14
  | .retry => 15 | .done => 16 | .error => 17 | .end_ => 18

/-- The send state with a given ordinal. -/
def sendStateOf (w : BitVec 4) : Option SendState :=
  match w.toNat with
  | 0 => some .idle | 1 => some .enquiry | 2 => some .reenquiry | 3 => some .ack | 4 => some .frame
  | 5 => some .ack2 | 6 => some .retry | 7 => some .nak | 8 => some .wait | 9 => some .done | 10 => some .error
  | 11 => some .end_ | _ => none

/-- The receive state with a given ordinal. -/
def recvStateOf (w : BitVec 5) : Option RecvState :=
  match w.toNat with
  | 0 => some .idle | 1 => some .poll | 2 => some .repoll | 3 => some .enquiry | 4 => some .ack | 5 => some .stx
  | 6 => some .len | 7 => some .datacmd | 8 => some .dataextlen | 9 => some .dataframenumber | 10 => some .data
  | 11 => some .etx | 12 => some .cs | 13 => some .ack2 | 14 => some .nak | 15 => some .retry | 16 => some .done
  | 17 => some .error | 18 => some .end_ | _ => none

/-- The number of an event (10_state R25, 60_exceptions R301). -/
def eventOrdinal : Event → BitVec 3
  | .pass => 0 | .busy => 1 | .wait => 2 | .deny => 3 | .fail => 4

/-- The event with a given number (10_state R25, 60_exceptions R301). -/
def eventOf (w : BitVec 3) : Option Event :=
  match w.toNat with
  | 0 => some .pass | 1 => some .busy | 2 => some .wait | 3 => some .deny | 4 => some .fail | _ => none

/-- The instruction of a send state: the action that runs while `s_state` names it (10_state R21). -/
def sendInstr : SendState → Instr
  | .idle => .sIdle | .enquiry => .sEnquiry | .reenquiry => .sReenquiry | .ack => .sAck | .frame => .sFrame
  | .ack2 => .sAck2 | .retry => .sRetry | .nak => .sNak | .wait => .sWait | .done => .sDone | .error => .sError
  | .end_ => .sEnd

/-- The instruction of a receive state: the action that runs while `r_state` names it (10_state R22). -/
def recvInstr : RecvState → Instr
  | .idle => .rIdle | .poll => .rPoll | .repoll => .rRepoll | .enquiry => .rEnquiry | .ack => .rAck | .stx => .rStx
  | .len => .rLen | .datacmd => .rDatacmd | .dataextlen => .rDataextlen | .dataframenumber => .rDataframenumber
  | .data => .rData | .etx => .rEtx | .cs => .rCs | .ack2 => .rAck2 | .nak => .rNak | .retry => .rRetry
  | .done => .rDone | .error => .rError | .end_ => .rEnd

/-! ### Wire units -/

/-- The end of a frame: `n` data bytes, ETX and the checksum byte, and what follows the frame. -/
def decodeTail (n : Nat) (bs : Bytes) : Except DecodeError (Bytes × Byte × Bytes) :=
  match bs.drop n with
  | e :: c :: rest => if e = Config.ETX then .ok (bs.take n, c, rest) else .error .noEtx
  | _ => .error .truncated

/-- The rest of a regular frame after LEN: header, `LEN - 5` data bytes, ETX, CS (30_encoding R98, R105). -/
def decodeRegular (len : Byte) (bs : Bytes) : Except DecodeError (Instr × Bytes) :=
  match bs with
  | cmd :: sub :: cb :: r =>
    match decodeTail (len.toNat - Config.regOverhead) r with
    | .ok (data, cs, rest) => .ok (.frameReg cmd sub cb data cs, rest)
    | .error e => .error e
  | _ => .error .truncated

/-- The rest of a divided frame after EXTLEN (30_encoding R102, R109). Bits 1..0 of the codebit say more or last; a frame
whose flags say neither is no unit (30_encoding R107, R112; log 6). -/
def decodeDivided (cmd sub cb : Byte) (v : Nat) (bs : Bytes) : Except DecodeError (Instr × Bytes) :=
  if v < Config.divOverhead ∨ Config.divOverhead + Config.chunkMax < v then .error .illegalExtLen
  else
    match bs with
    | n1 :: n0 :: t1 :: t0 :: r =>
      match decodeTail (v - Config.divOverhead) r with
      | .ok (chunk, cs, rest) =>
        if flagsLast cb then .ok (.frameDivLast cmd sub cb (n1 ++ n0) (t1 ++ t0) chunk cs, rest)
        else if flagsMore cb then .ok (.frameDivMore cmd sub cb (n1 ++ n0) (t1 ++ t0) chunk cs, rest)
        else .error .divisionFlags
      | .error e => .error e
    | _ => .error .truncated

/-- The rest of an undivided extended frame after EXTLEN (30_encoding R100, R109). -/
def decodeUndivided (cmd sub cb : Byte) (v : Nat) (bs : Bytes) : Except DecodeError (Instr × Bytes) :=
  if v < Config.extOverhead then .error .illegalExtLen
  else
    match decodeTail (v - Config.extOverhead) bs with
    | .ok (data, cs, rest) => .ok (.frameExt cmd sub cb data cs, rest)
    | .error e => .error e

/-- The rest of a frame of an extended shape after the marker (30_encoding R105). -/
def decodeExtended (midDivision : Bool) (bs : Bytes) : Except DecodeError (Instr × Bytes) :=
  match bs with
  | cmd :: sub :: cb :: e2 :: e1 :: e0 :: r =>
    let v := unbe [e2, e1, e0]
    if selectsDivided midDivision v then decodeDivided cmd sub cb v r else decodeUndivided cmd sub cb v r
  | _ => .error .truncated

/-- A frame, decided in the order of 30_encoding R105: STX, LEN or the marker, then the shape. -/
def decodeFrame (midDivision : Bool) (bs : Bytes) : Except DecodeError (Instr × Bytes) :=
  match bs with
  | [] => .error .emptyUnit
  | b0 :: r =>
    if b0 = Config.STX then
      match r with
      | [] => .error .truncated
      | b1 :: r =>
        if b1 = Config.EXT_LEN then decodeExtended midDivision r
        else if Config.regLenMin ≤ b1.toNat ∧ b1.toNat ≤ Config.regLenMax then decodeRegular b1 r
        else .error .illegalLen
    else .error .noStx

/-- One byte in answer context: 0x05, 0x06 or 0x15 (30_encoding R112). -/
def decodeAnswer (bs : Bytes) : Except DecodeError (Instr × Bytes) :=
  match bs with
  | [] => .error .emptyUnit
  | b :: rest =>
    if b = Config.ENQ then .ok (.enq, rest)
    else if b = Config.ACK then .ok (.ack, rest)
    else if b = Config.NAK then .ok (.nak, rest)
    else .error .notAControlByte

/-- One byte at a delimiter position of a frame: 0x02, 0x03 or 0xFE (30_encoding R94). -/
def decodeDelimiter (bs : Bytes) : Except DecodeError (Instr × Bytes) :=
  match bs with
  | [] => .error .emptyUnit
  | b :: rest =>
    if b = Config.STX then .ok (.stx, rest)
    else if b = Config.ETX then .ok (.etx, rest)
    else if b = Config.EXT_LEN then .ok (.extLen, rest)
    else .error .notADelimiter

/-- The first unit of a byte sequence in its context, with the bytes that follow it (30_encoding R112). -/
def decodeUnit (ctx : WireContext) (bs : Bytes) : Except DecodeError (Instr × Bytes) :=
  match ctx with
  | .answer => decodeAnswer bs
  | .delimiter => decodeDelimiter bs
  | .frame mid => decodeFrame mid bs

/-! ### The decoder -/

/-- The instruction of a codec request. -/
def codecInstr : CodecRequest → Instr
  | .buildFrames p => .buildFrames p
  | .buildRegular p => .buildRegular p
  | .buildExtended p => .buildExtended p
  | .buildDivided p => .buildDivided p
  | .parseFrames fs => .parseFrames fs
  | .parseRegular f => .parseRegular f
  | .parseExtended f => .parseExtended f
  | .parseDivided fs => .parseDivided fs

/-- The instruction of a host request. -/
def hostInstr : HostRequest → Instr
  | .construct => .construct
  | .send p => .send p
  | .receive => .receive
  | .destruct => .destruct
  | .readCounters => .readCounters

/-- The decoder: total, rejecting by name. A wire unit is exactly the bytes given. -/
def decode (c : Code) : Except DecodeError Instr :=
  match c with
  | .wire ctx bs =>
    match decodeUnit ctx bs with
    | .ok (i, []) => .ok i
    | .ok (_, _ :: _) => .error .trailingBytes
    | .error e => .error e
  | .sendState w =>
    match sendStateOf w with
    | some st => .ok (sendInstr st)
    | none => .error .unusedSendOrdinal
  | .recvState w =>
    match recvStateOf w with
    | some st => .ok (recvInstr st)
    | none => .error .unusedRecvOrdinal
  | .codec r => .ok (codecInstr r)
  | .host r => .ok (hostInstr r)

/-! ### The encoder -/

/-- The bytes of a regular frame (30_encoding R98): LEN = size + 2. -/
def encodeReg (cmd sub cb : Byte) (data : Bytes) (cs : Byte) : Bytes :=
  [Config.STX, BitVec.ofNat 8 (data.length + Config.regOverhead), cmd, sub, cb] ++ data ++ [Config.ETX, cs]

/-- The bytes of an undivided extended frame (30_encoding R100): EXTLEN = d + 5. -/
def encodeExt (cmd sub cb : Byte) (data : Bytes) (cs : Byte) : Bytes :=
  [Config.STX, Config.EXT_LEN, cmd, sub, cb] ++ be24 (data.length + Config.extOverhead) ++ data ++ [Config.ETX, cs]

/-- The bytes of a divided frame (30_encoding R102): EXTLEN = c + 12, then FRAMENO and FRAMECOUNT. -/
def encodeDiv (cmd sub cb : Byte) (frameNo frameCount : BitVec 16) (chunk : Bytes) (cs : Byte) : Bytes :=
  [Config.STX, Config.EXT_LEN, cmd, sub, cb] ++ be24 (chunk.length + Config.divOverhead) ++ be16 frameNo.toNat ++
    be16 frameCount.toNat ++ chunk ++ [Config.ETX, cs]

/-- The encoder: the encoded form of an instruction, written from the encodings of 30_encoding, the ordinals of
10_state R25 and the requests that have no bit pattern. -/
def encode : Instr → Code
  | .enq => .wire .answer [Config.ENQ]
  | .ack => .wire .answer [Config.ACK]
  | .nak => .wire .answer [Config.NAK]
  | .stx => .wire .delimiter [Config.STX]
  | .etx => .wire .delimiter [Config.ETX]
  | .extLen => .wire .delimiter [Config.EXT_LEN]
  | .frameReg cmd sub cb data cs => .wire (.frame false) (encodeReg cmd sub cb data cs)
  | .frameExt cmd sub cb data cs => .wire (.frame false) (encodeExt cmd sub cb data cs)
  | .frameDivMore cmd sub cb no cnt chunk cs => .wire (.frame true) (encodeDiv cmd sub cb no cnt chunk cs)
  | .frameDivLast cmd sub cb no cnt chunk cs => .wire (.frame true) (encodeDiv cmd sub cb no cnt chunk cs)
  | .sIdle => .sendState 0
  | .sEnquiry => .sendState 1
  | .sReenquiry => .sendState 2
  | .sAck => .sendState 3
  | .sFrame => .sendState 4
  | .sAck2 => .sendState 5
  | .sRetry => .sendState 6
  | .sNak => .sendState 7
  | .sWait => .sendState 8
  | .sDone => .sendState 9
  | .sError => .sendState 10
  | .sEnd => .sendState 11
  | .rIdle => .recvState 0
  | .rPoll => .recvState 1
  | .rRepoll => .recvState 2
  | .rEnquiry => .recvState 3
  | .rAck => .recvState 4
  | .rStx => .recvState 5
  | .rLen => .recvState 6
  | .rDatacmd => .recvState 7
  | .rDataextlen => .recvState 8
  | .rDataframenumber => .recvState 9
  | .rData => .recvState 10
  | .rEtx => .recvState 11
  | .rCs => .recvState 12
  | .rAck2 => .recvState 13
  | .rNak => .recvState 14
  | .rRetry => .recvState 15
  | .rDone => .recvState 16
  | .rError => .recvState 17
  | .rEnd => .recvState 18
  | .buildFrames p => .codec (.buildFrames p)
  | .buildRegular p => .codec (.buildRegular p)
  | .buildExtended p => .codec (.buildExtended p)
  | .buildDivided p => .codec (.buildDivided p)
  | .parseFrames fs => .codec (.parseFrames fs)
  | .parseRegular f => .codec (.parseRegular f)
  | .parseExtended f => .codec (.parseExtended f)
  | .parseDivided fs => .codec (.parseDivided fs)
  | .construct => .host .construct
  | .send p => .host (.send p)
  | .receive => .host .receive
  | .destruct => .host .destruct
  | .readCounters => .host .readCounters

/-! ### A number of the opcode table -/

/-- The longest wire unit, in bytes (30_encoding R104). -/
def longestUnit : Nat := Config.chunkMax + 14

/-- The bytes of a number whose bit 0 is the least significant bit of the first byte, followed by zero bytes up to the
longest unit. -/
def tableBytes (n w : Nat) : Bytes :=
  match n with
  | 0 => List.replicate longestUnit 0
  | n + 1 => BitVec.ofNat 8 w :: tableBytes n (w / 256)

/-- The encoded form that a number of the opcode table stands for. The table numbers three spaces from zero (one-byte
units, `s_state`, `r_state`) and the number alone does not name its space, so the spaces are tried in that order; a
width of 4 or 5 bits names `s_state` or `r_state` outright, and more than one byte is a frame (log 5). -/
def tableCode (nbits w : Nat) : Code :=
  if nbits = 4 then .sendState (BitVec.ofNat 4 w)
  else if nbits = 5 then .recvState (BitVec.ofNat 5 w)
  else if nbits ≤ 8 then
    let b : Byte := BitVec.ofNat 8 w
    if b = Config.ENQ ∨ b = Config.ACK ∨ b = Config.NAK then .wire .answer [b]
    else if b = Config.STX ∨ b = Config.ETX ∨ b = Config.EXT_LEN then .wire .delimiter [b]
    else if b.toNat < 12 then .sendState (BitVec.ofNat 4 w)
    else if b.toNat < 19 then .recvState (BitVec.ofNat 5 w)
    else .wire .answer [b]
  else
    let bs := tableBytes ((nbits + 7) / 8) w
    match decodeUnit (.frame false) bs with
    | .ok (_, rest) => .wire (.frame false) (bs.take (bs.length - rest.length))
    | .error _ => .wire (.frame false) bs

/-- The instruction the decoder reads from a number of the opcode table (log 5). -/
def decodeTableWord (nbits w : Nat) : Option Instr := (decode (tableCode nbits w)).toOption

end Sys2Proof
end

