-- ==== Sys2Proof/Machine/Wire.lean ====
section
/-! DEFINITION. The wire units as instructions: the unit arrives from the peer and its bytes join `DEV_IN`, where the
engine that reads next sees them (43_orchestrator R269, 20_memory R75, R79; log 4). -/

namespace Sys2Proof.Machine

/-- ENQ arrives (30_encoding R91). -/
def execEnq (s : State) : Host.Outcome State Fault Refusal := .next (arrive [Config.ENQ] s)

/-- ACK arrives (30_encoding R92). -/
def execAck (s : State) : Host.Outcome State Fault Refusal := .next (arrive [Config.ACK] s)

/-- NAK arrives (30_encoding R93). -/
def execNak (s : State) : Host.Outcome State Fault Refusal := .next (arrive [Config.NAK] s)

/-- The delimiter STX arrives (30_encoding R94). -/
def execStx (s : State) : Host.Outcome State Fault Refusal := .next (arrive [Config.STX] s)

/-- The delimiter ETX arrives (30_encoding R94). -/
def execEtx (s : State) : Host.Outcome State Fault Refusal := .next (arrive [Config.ETX] s)

/-- The marker EXT_LEN arrives (30_encoding R94). -/
def execExtLen (s : State) : Host.Outcome State Fault Refusal := .next (arrive [Config.EXT_LEN] s)

/-- A regular frame arrives (30_encoding R98). -/
def execFrameReg (cmd sub cb : Byte) (data : Bytes) (cs : Byte) (s : State) : Host.Outcome State Fault Refusal :=
  .next (arrive (encodeReg cmd sub cb data cs) s)

/-- An undivided extended frame arrives (30_encoding R100). -/
def execFrameExt (cmd sub cb : Byte) (data : Bytes) (cs : Byte) (s : State) : Host.Outcome State Fault Refusal :=
  .next (arrive (encodeExt cmd sub cb data cs) s)

/-- A divided frame that is not the last arrives (30_encoding R102). -/
def execFrameDivMore (cmd sub cb : Byte) (no cnt : BitVec 16) (chunk : Bytes) (cs : Byte) (s : State) :
    Host.Outcome State Fault Refusal :=
  .next (arrive (encodeDiv cmd sub cb no cnt chunk cs) s)

/-- The last divided frame arrives (30_encoding R102). -/
def execFrameDivLast (cmd sub cb : Byte) (no cnt : BitVec 16) (chunk : Bytes) (cs : Byte) (s : State) :
    Host.Outcome State Fault Refusal :=
  .next (arrive (encodeDiv cmd sub cb no cnt chunk cs) s)

end Sys2Proof.Machine
end

