-- ==== Sys2Proof/Machine/Dispatch.lean ====
section
/-! DEFINITION. One arm per instruction, each one call of its meaning. -/

namespace Sys2Proof.Machine

def exec (i : Instr) (s : State) : Host.Outcome State Fault Refusal :=
  match i with
  | .enq => Sys2Proof.Machine.execEnq s
  | .ack => Sys2Proof.Machine.execAck s
  | .nak => Sys2Proof.Machine.execNak s
  | .stx => Sys2Proof.Machine.execStx s
  | .etx => Sys2Proof.Machine.execEtx s
  | .extLen => Sys2Proof.Machine.execExtLen s
  | .frameReg cmd sub cb data cs => Sys2Proof.Machine.execFrameReg cmd sub cb data cs s
  | .frameExt cmd sub cb data cs => Sys2Proof.Machine.execFrameExt cmd sub cb data cs s
  | .frameDivMore cmd sub cb no cnt chunk cs => Sys2Proof.Machine.execFrameDivMore cmd sub cb no cnt chunk cs s
  | .frameDivLast cmd sub cb no cnt chunk cs => Sys2Proof.Machine.execFrameDivLast cmd sub cb no cnt chunk cs s
  | .sIdle => Sys2Proof.Machine.execSIdle s
  | .sEnquiry => Sys2Proof.Machine.execSEnquiry s
  | .sReenquiry => Sys2Proof.Machine.execSReenquiry s
  | .sAck => Sys2Proof.Machine.execSAck s
  | .sFrame => Sys2Proof.Machine.execSFrame s
  | .sAck2 => Sys2Proof.Machine.execSAck2 s
  | .sRetry => Sys2Proof.Machine.execSRetry s
  | .sNak => Sys2Proof.Machine.execSNak s
  | .sWait => Sys2Proof.Machine.execSWait s
  | .sDone => Sys2Proof.Machine.execSDone s
  | .sError => Sys2Proof.Machine.execSError s
  | .sEnd => Sys2Proof.Machine.execSEnd s
  | .rIdle => Sys2Proof.Machine.execRIdle s
  | .rPoll => Sys2Proof.Machine.execRPoll s
  | .rRepoll => Sys2Proof.Machine.execRRepoll s
  | .rEnquiry => Sys2Proof.Machine.execREnquiry s
  | .rAck => Sys2Proof.Machine.execRAck s
  | .rStx => Sys2Proof.Machine.execRStx s
  | .rLen => Sys2Proof.Machine.execRLen s
  | .rDatacmd => Sys2Proof.Machine.execRDatacmd s
  | .rDataextlen => Sys2Proof.Machine.execRDataextlen s
  | .rDataframenumber => Sys2Proof.Machine.execRDataframenumber s
  | .rData => Sys2Proof.Machine.execRData s
  | .rEtx => Sys2Proof.Machine.execREtx s
  | .rCs => Sys2Proof.Machine.execRCs s
  | .rAck2 => Sys2Proof.Machine.execRAck2 s
  | .rNak => Sys2Proof.Machine.execRNak s
  | .rRetry => Sys2Proof.Machine.execRRetry s
  | .rDone => Sys2Proof.Machine.execRDone s
  | .rError => Sys2Proof.Machine.execRError s
  | .rEnd => Sys2Proof.Machine.execREnd s
  | .buildFrames payload => Sys2Proof.Machine.execBuildFrames payload s
  | .buildRegular payload => Sys2Proof.Machine.execBuildRegular payload s
  | .buildExtended payload => Sys2Proof.Machine.execBuildExtended payload s
  | .buildDivided payload => Sys2Proof.Machine.execBuildDivided payload s
  | .parseFrames frames => Sys2Proof.Machine.execParseFrames frames s
  | .parseRegular frame => Sys2Proof.Machine.execParseRegular frame s
  | .parseExtended frame => Sys2Proof.Machine.execParseExtended frame s
  | .parseDivided frames => Sys2Proof.Machine.execParseDivided frames s
  | .construct => Sys2Proof.Machine.execConstruct s
  | .send payload => Sys2Proof.Machine.execSend payload s
  | .receive => Sys2Proof.Machine.execReceive s
  | .destruct => Sys2Proof.Machine.execDestruct s
  | .readCounters => Sys2Proof.Machine.execReadCounters s

end Sys2Proof.Machine
end

