-- ==== Sys2Proof/Machine/Fetch.lean ====
section
/-! DEFINITION. Where the next instruction comes from (43_orchestrator R269; log 1): an engine's state register, the
wire, the codec port, the host port or a held request; and what a turn without an instruction does. -/

namespace Sys2Proof.Machine

/-- The encoded instruction of a turn and the state it is taken from; `none` where the turn holds none: the engine is
not running (10_state R23), no such request is held or a call of its kind is in progress (43_orchestrator R268), or the
turn is the environment's own. -/
def fetch (t : Turn) (s : State) : Option (Code × State) :=
  match t with
  | .engine .send => if s.sRun then some (.sendState (sendOrdinal s.sState), s) else none
  | .engine .recv => if s.rRun then some (.recvState (recvOrdinal s.rState), s) else none
  | .unit ctx bytes => some (.wire ctx bytes, s)
  | .codec r => some (.codec r, s)
  | .host r => some (.host r, s)
  | .heldSend k =>
    match s.sRun, s.heldSends[k]? with
    | false, some p => some (.host (.send p), { s with heldSends := s.heldSends.eraseIdx k })
    | _, _ => none
  | .heldReceive =>
    match s.rRun, s.heldReceives with
    | false, n + 1 => some (.host .receive, { s with heldReceives := n })
    | _, _ => none
  | .arrive _ | .deliver _ | .collect _ => none

/-- What a turn without an instruction does: the environment's bytes arrive, the peer takes bytes, the host collects a
result; any other such turn moves nothing. -/
def environment (t : Turn) (s : State) : State :=
  match t with
  | .arrive bytes => arrive bytes s
  | .deliver n => { s with devOut := s.devOut.drop n }
  | .collect k => collect k s
  | _ => s

/-- `s` with the code `c` placed where the next step fetches it. A state action runs only inside a call, so the engine is
running and a context that has no frame gets the one of call entry: the frame of `tx_payload`, or one empty buffer
(10_state R45, R47; log 1), and the action is at its start. -/
def placeCode (c : Code) (s : State) : State :=
  match c with
  | .wire ctx bytes => { s with turns := .unit ctx bytes :: s.turns }
  | .sendState w =>
    match sendStateOf w with
    | some st =>
      { s with
        sState := st, sRun := true, sPhase := .start, txf := if s.txf = [] then [regularFrame s.txPayload] else s.txf,
        turns := .engine .send :: s.turns }
    | none => s
  | .recvState w =>
    match recvStateOf w with
    | some st =>
      { s with
        rState := st, rRun := true, rPhase := .start, rxf := if s.rxf = [] then [[]] else s.rxf,
        turns := .engine .recv :: s.turns }
    | none => s
  | .codec r => { s with turns := .codec r :: s.turns }
  | .host r => { s with turns := .host r :: s.turns }

end Sys2Proof.Machine
end

