-- ==== Sys2Proof/Machine/Step.lean ====
section
/-! DEFINITION. One step of the whole block (43_orchestrator R269): the next turn is taken; if it holds an instruction,
that is fetched, decoded and executed. -/

namespace Sys2Proof.Machine

/-- One step. With no turn left nothing moves: the block waits for an input (log 1). -/
def step (s : State) : Host.Outcome State Fault Refusal :=
  match s.turns with
  | [] => .next s
  | t :: rest =>
    match fetch t { s with turns := rest } with
    | none => .next (environment t { s with turns := rest })
    | some (c, s') =>
      match decode c with
      | .ok i => exec i s'
      | .error e => .refused (.undecodable e)

/-- `s` with the instruction of a number of the opcode table placed where the next step fetches it (log 1, log 5). -/
def State.withFetchWord (s : State) (nbits w : Nat) : State := placeCode (tableCode nbits w) s

end Sys2Proof.Machine
end

