-- ==== Sys2Proof/Machine/Addressing.lean ====
section
/-! DEFINITION. The addressing layer at the boundary of the block (44_addressing_boundary R280 to R287; log 22): a
transport, or a transmit and receive pair, wrapped with a fixed peer; the codebit it computes and checks; its `write` and
`read`, each a request and the collection of the call's result. None of it is an instruction of the block. -/

namespace Sys2Proof.Machine

/-! ### Identities and codebits -/

/-- The two parties of the link (44_addressing_boundary R281). -/
inductive Peer where
  | a
  | b
  deriving DecidableEq, Repr, Inhabited

/-- The address code of a party, in the three bits of a codebit field (44_addressing_boundary R281). -/
def addressOf : Peer → BitVec 3
  | .a => Config.ADDR_A.setWidth 3
  | .b => Config.ADDR_B.setWidth 3

/-- The local role: the complement of the peer among the two codes (44_addressing_boundary R281). -/
def localRole : Peer → Peer
  | .a => .b
  | .b => .a

/-- The outgoing codebit: sender = local, receiver = peer, division flags 00 (44_addressing_boundary R282). -/
def codebitOut (peer : Peer) : Byte := codebit (addressOf (localRole peer)) (addressOf peer) 0

/-- The check of an incoming codebit, on bits 7..2 (44_addressing_boundary R283). -/
def codebitOk (peer : Peer) (cb : Byte) : Bool :=
  decide (codebitSender cb = addressOf peer) && decide (codebitReceiver cb = addressOf (localRole peer))

/-! ### Payloads -/

/-- The payload that `write((cmd, sub), data)` hands to `send` (44_addressing_boundary R284). -/
def writePayload (peer : Peer) (cmd sub : Byte) (data : Bytes) : Bytes := [cmd, sub, codebitOut peer] ++ data

/-- What `read()` reports (44_addressing_boundary R284). -/
inductive Received where
  | nothingReceived
  | received (cmd sub : Byte) (data : Bytes)
  deriving DecidableEq, Repr

/-- What `read()` makes of the result of a `receive` (44_addressing_boundary R283, R284). Division flags 01 are refused at
this layer (30_encoding R107, 93_implementation_defined U3). -/
def readPayload (peer : Peer) (ok : Bool) (payload : Option Bytes) : Except Refusal Received :=
  match ok, payload with
  | true, some (cmd :: sub :: cb :: data) =>
    if flagsReserved cb then .error .reservedFlags
    else if codebitOk peer cb then .ok (.received cmd sub data)
    else .ok .nothingReceived
  | _, _ => .ok .nothingReceived

/-! ### The layer -/

/-- The transports under the layer: one for both directions, or one dedicated to each, every one with its own device,
lock and counters (44_addressing_boundary R280, R286). -/
inductive Channels where
  | single (proto : State)
  | dual (tx rx : State)
  deriving DecidableEq, Repr

/-- The addressing layer: transports and the fixed address of the peer (44_addressing_boundary R280). -/
structure Layer where
  peer : Peer
  channels : Channels
  deriving DecidableEq, Repr

/-- The transport that sends. -/
def Layer.sender (l : Layer) : State :=
  match l.channels with
  | .single p => p
  | .dual tx _ => tx

/-- The transport that receives. -/
def Layer.receiver (l : Layer) : State :=
  match l.channels with
  | .single p => p
  | .dual _ rx => rx

/-- The layer with another state of the transport that sends. -/
def Layer.withSender (s : State) (l : Layer) : Layer :=
  match l.channels with
  | .single _ => { l with channels := .single s }
  | .dual _ rx => { l with channels := .dual s rx }

/-- The layer with another state of the transport that receives. -/
def Layer.withReceiver (s : State) (l : Layer) : Layer :=
  match l.channels with
  | .single _ => { l with channels := .single s }
  | .dual tx _ => { l with channels := .dual tx s }

/-- An outcome with its next state put where `f` says. -/
def mapOutcome {α : Type} (f : State → α) : Host.Outcome State Fault Refusal → Host.Outcome α Fault Refusal
  | .next s => .next (f s)
  | .fault r => .fault r
  | .refused r => .refused r

/-- The turn presents or takes a `receive`. -/
def isReceiveTurn : Turn → Bool
  | .host .receive | .heldReceive => true
  | _ => false

/-- The turn presents or takes a `send`. -/
def isSendTurn : Turn → Bool
  | .host (.send _) | .heldSend _ => true
  | _ => false

/-- One step of the transport that sends. On the transmit instance of a pair only `send` is ever called
(44_addressing_boundary R286). -/
def Layer.stepSender (l : Layer) : Host.Outcome Layer Fault Refusal :=
  match l.channels with
  | .single p => mapOutcome (fun s => l.withSender s) (step p)
  | .dual tx _ =>
    if (tx.turns.head?.map isReceiveTurn).getD false then .refused .wrongChannel
    else mapOutcome (fun s => l.withSender s) (step tx)

/-- One step of the transport that receives. On the receive instance of a pair only `receive` is ever called
(44_addressing_boundary R286). -/
def Layer.stepReceiver (l : Layer) : Host.Outcome Layer Fault Refusal :=
  match l.channels with
  | .single p => mapOutcome (fun s => l.withReceiver s) (step p)
  | .dual _ rx =>
    if (rx.turns.head?.map isSendTurn).getD false then .refused .wrongChannel
    else mapOutcome (fun s => l.withReceiver s) (step rx)

/-! ### `write` and `read` (44_addressing_boundary R284) -/

/-- `write((cmd, sub), data)`, the call: `send` of the command with the codebit of the fixed peer. -/
def Layer.write (cmd sub : Byte) (data : Bytes) (l : Layer) : Host.Outcome Layer Fault Refusal :=
  mapOutcome (fun s => l.withSender s) (exec (.send (writePayload l.peer cmd sub data)) l.sender)

/-- The result of a `send` that has ended. -/
def sendResult? : HostResponse → Option Bool
  | .sendResult ok => some ok
  | _ => none

/-- The result of a `receive` that has ended. -/
def receiveResult? : HostResponse → Option (Bool × Option Bytes)
  | .receiveResult ok payload => some (ok, payload)
  | _ => none

/-- `write`, the return: the result of the oldest ended `send` that is not collected; `none` while the call runs. -/
def Layer.writeReturn (l : Layer) : Option (Bool × Layer) :=
  match l.sender.returns.findSome? sendResult? with
  | none => none
  | some ok =>
    let k := l.sender.returns.findIdx (fun r => (sendResult? r).isSome)
    some (ok, l.withSender (collect k l.sender))

/-- `read()`, the call: a `receive`. -/
def Layer.read (l : Layer) : Host.Outcome Layer Fault Refusal :=
  mapOutcome (fun s => l.withReceiver s) (exec .receive l.receiver)

/-- `read()`, the return: what the layer makes of the result of the oldest ended `receive` that is not collected; `none`
while the call runs. -/
def Layer.readReturn (l : Layer) : Option (Except Refusal Received × Layer) :=
  match l.receiver.returns.findSome? receiveResult? with
  | none => none
  | some (ok, payload) =>
    let k := l.receiver.returns.findIdx (fun r => (receiveResult? r).isSome)
    some (readPayload l.peer ok payload, l.withReceiver (collect k l.receiver))

end Sys2Proof.Machine
end

