-- ==== Sys2Proof/Safety.lean ====
section
/-! DEFINITION. What a safe state of the transport is, in the terms the statements use: who owns the lock in which state
(41_send_fsm R177, 42_receive_fsm R226), the ranges of the counters (60_exceptions R315), the two contexts (10_state
R45), and the events each state can emit (41_send_fsm R176, 42_receive_fsm R225); and runs of several steps. -/

namespace Sys2Proof.Machine

/-- The phases in which `retry` and `wait` have released the lock (41_send_fsm R170, R172). -/
def SendPhase.released : SendPhase → Bool
  | .start | .write => false
  | .sleep | .close | .reopen => true

/-- The send engine owns the lock on entry to its state, and in `retry` and `wait` until they release it (41_send_fsm
R177). -/
def sendOwns (s : State) : Bool :=
  match s.sState with
  | .idle | .enquiry => false
  | .retry | .wait => !s.sPhase.released
  | _ => true

/-- The phases an action of a send state goes through (41_send_fsm R166, R170, R172). -/
def sendPhases : SendState → List SendPhase
  | .reenquiry => [.start, .write]
  | .retry => [.start, .sleep, .close, .reopen]
  | .wait => [.start, .sleep]
  | _ => [.start]

/-- The phases an action of a receive state goes through (42_receive_fsm R206, R208). -/
def recvPhaseOk : RecvState → RecvPhase → Bool
  | _, .start => true
  | .poll, .lock => true
  | .enquiry, .drained _ => true
  | _, _ => false

/-- The receive engine owns the lock on entry to its state (42_receive_fsm R226). `error` and `end` are left out: a failed
`poll` reaches them without the lock. -/
def recvOwns (s : State) : Bool :=
  match s.rState with
  | .idle | .poll => false
  | _ => true

/-- Lock ownership by state (41_send_fsm R177, 42_receive_fsm R226), with the phases an action can be in. -/
structure LockInv (s : State) : Prop where
  send : s.sRun = true → (s.lockOwner = some .send ↔ sendOwns s = true)
  sendStopped : s.sRun = false → s.lockOwner ≠ some .send
  recv : s.rRun = true → s.rState ≠ .error → s.rState ≠ .end_ → (s.lockOwner = some .recv ↔ recvOwns s = true)
  recvStopped : s.rRun = false → s.lockOwner ≠ some .recv
  sendPhase : s.sRun = true → s.sPhase ∈ sendPhases s.sState
  recvPhase : s.rRun = true → recvPhaseOk s.rState s.rPhase = true

/-- The send engine is past `idle` and has not reached `error` or `end`. -/
def sendTrying (s : State) : Prop := s.sRun = true ∧ s.sState ≠ .idle ∧ s.sState ≠ .error ∧ s.sState ≠ .end_

/-- The receive engine is past `idle` and has not reached `error` or `end`. -/
def recvTrying (s : State) : Prop := s.rRun = true ∧ s.rState ≠ .idle ∧ s.rState ≠ .error ∧ s.rState ≠ .end_

/-- The ranges of the retry counters (60_exceptions R315): 0..240 and 0..5, below the ceiling while a call is still
trying. -/
structure CounterInv (s : State) : Prop where
  r2 : s.r2.toNat ≤ Config.sendRetryLimit
  r2Trying : sendTrying s → s.r2.toNat < Config.sendRetryLimit
  r1 : s.r1.toNat ≤ Config.recvRetryLimit
  r1Trying : recvTrying s → s.r1.toNat < Config.recvRetryLimit

/-- A complete frame: STX, a body that ends in ETX, the checksum of the body; 7 to 1038 bytes (30_encoding R103,
R104). -/
def CompleteFrame (f : Frame) : Prop :=
  7 ≤ f.length ∧ f.length ≤ longestUnit ∧ ∃ body, f = sealFrame (body ++ [Config.ETX])

/-- The Transmit Context while a `send` runs (10_state R26, R27, R45). -/
structure TxInv (s : State) : Prop where
  cursor : s.sRun = true → s.txCursor.toNat < s.txf.length
  count : s.sRun = true → s.txf.length ≤ 65535
  frames : s.sRun = true → ∀ f ∈ s.txf, CompleteFrame f

/-- What the shape and the declared length say of the frame in progress once its shape is decided (42_receive_fsm R211,
R213, R214). -/
def rxDecided (s : State) (f : Frame) : Prop :=
  match s.rxShape with
  | .regular =>
    isExtended f = false ∧ Config.regLenMin ≤ s.rxLen.toNat ∧ s.rxLen.toNat ≤ Config.regLenMax
  | .extended =>
    isExtended f = true ∧ s.midDivision = false ∧ Config.extOverhead ≤ s.rxLen.toNat ∧
      s.rxLen.toNat ≤ Config.divThreshold ∧ unbe (slice f 5 8) = s.rxLen.toNat
  | .divided =>
    isExtended f = true ∧ selectsDivided s.midDivision s.rxLen.toNat = true ∧
      Config.divOverhead ≤ s.rxLen.toNat ∧ s.rxLen.toNat ≤ Config.divOverhead + Config.chunkMax ∧
      unbe (slice f 5 8) = s.rxLen.toNat
  | _ => False

/-- What is known of the frame in progress between LEN and EXTLEN (42_receive_fsm R211). -/
def rxHeaded (s : State) (f : Frame) : Prop :=
  match s.rxShape with
  | .regular =>
    isExtended f = false ∧ Config.regLenMin ≤ s.rxLen.toNat ∧ s.rxLen.toNat ≤ Config.regLenMax
  | .extPending => isExtended f = true
  | _ => False

/-- Bytes of the frame in progress before its data (30_encoding R98, R100, R102). -/
def rxBeforeData (s : State) : Nat :=
  match s.rxShape with
  | .regular => 5
  | .divided => 12
  | _ => 8

/-- Bytes of the frame in progress before ETX: header fields and data (42_receive_fsm R216). -/
def rxBeforeEtx (s : State) : Nat :=
  match s.rxShape with
  | .extended => s.rxLen.toNat + 3
  | _ => s.rxLen.toNat

/-- What receive state by receive state the frame in progress holds (42_receive_fsm R210 to R222). -/
def rxProgress (s : State) (f : Frame) : Prop :=
  match s.rState with
  | .idle | .poll | .repoll | .enquiry | .ack | .stx => f = []
  | .len => f = [Config.STX]
  | .datacmd => f.length = 2 ∧ rxHeaded s f
  | .dataextlen => f.length = 5 ∧ rxHeaded s f
  | .dataframenumber => f.length = (if s.rxShape = .regular then 5 else 8) ∧ rxDecided s f
  | .data => f.length = rxBeforeData s ∧ rxDecided s f
  | .etx => f.length = rxBeforeEtx s ∧ rxDecided s f
  | .cs => f.length = rxBeforeEtx s + 1 ∧ rxDecided s f
  | .ack2 | .done => f.length = rxBeforeEtx s + 2 ∧ rxDecided s f
  | .end_ => s.rxOk = true → f.length = rxBeforeEtx s + 2 ∧ rxDecided s f
  | .nak | .retry | .error => True

/-- The Receive Context while a `receive` runs (10_state R30, R45; 43_orchestrator R264): at least one buffer, every
completed buffer a divided frame, the frame in progress as far as its state says. -/
structure RxInv (s : State) : Prop where
  buffer : s.rRun = true → s.rxf ≠ []
  completed : s.rRun = true → ∀ f ∈ s.rxf.dropLast, isExtended f = true ∧ dividedFits f = true
  progress : s.rRun = true → rxProgress s (s.rxf.getLastD [])

/-- The events a send state can emit (41_send_fsm R176). -/
def sendCanEmit : SendState → List Event
  | .idle | .enquiry | .wait | .error => [.pass]
  | .reenquiry | .frame | .nak => [.pass, .deny, .fail]
  | .ack | .ack2 => [.pass, .busy, .wait, .deny, .fail]
  | .retry => [.pass, .fail]
  | .done => [.pass, .wait]
  | .end_ => []

/-- The events a receive state can emit (42_receive_fsm R225). -/
def recvCanEmit : RecvState → List Event
  | .idle | .repoll | .error => [.pass]
  | .poll | .ack | .ack2 | .nak | .datacmd | .dataframenumber | .data | .retry => [.pass, .fail]
  | .enquiry => [.pass, .busy, .deny, .fail]
  | .stx | .len | .etx | .dataextlen | .cs => [.pass, .deny, .fail]
  | .done => [.pass, .wait]
  | .end_ => []

/-! ### Runs of several steps -/

/-- The state after `n` steps; `none` when one of them stops. -/
def runFor : Nat → State → Option State
  | 0, s => some s
  | n + 1, s =>
    match step s with
    | .next t => runFor n t
    | _ => none

/-- An answer of the device: a status and a count of bytes. -/
def answer (status : DevStatus) (count : Nat) : DevAnswer := ⟨status, count, [], false⟩

/-- The turns that send one frame on a clean wire (41_send_fsm R181): `reenquiry` drains and writes, the peer's ACK
arrives, `ack`, `frame`, the peer's ACK arrives, `ack2`, `done`. -/
def cleanFrameTurns : List Turn :=
  [.engine .send, .engine .send, .unit .answer [Config.ACK], .engine .send, .engine .send, .unit .answer [Config.ACK],
    .engine .send, .engine .send]

/-- The device's answers while the frame `f` is sent on a clean wire (41_send_fsm R181): the drain finds nothing, ENQ is
written, a byte is read, all of `f` is written, a byte is read. -/
def cleanFrameAnswers (f : Frame) : List DevAnswer :=
  [answer .timeout 0, answer .success 1, answer .success 0, answer .success f.length, answer .success 0]

/-- The number of stale bytes that the drain of attempt number `k + 1` finds: what `inp`, the stream at the start of the
call, held, or what the open after attempt number `k` brought (70_reset_and_hazards R377, 93_implementation_defined U8). -/
def staleBytes (inp : Bytes) (opens : Nat → DevAnswer) (k : Nat) : Nat :=
  if k = 0 then inp.length else if k % Config.reopenPeriod = 0 then (opens (k - 1)).stream.length else 0

/-- The number of stale bytes that the drains of all attempts find. -/
def staleTotal (inp : Bytes) (opens : Nat → DevAnswer) : Nat :=
  ((List.range Config.sendRetryLimit).map (staleBytes inp opens)).sum

/-- The answers while the peer is silent in failed attempt number `k` (41_send_fsm R178, 70_reset_and_hazards R377): the
drain finds `n` stale bytes and then none, ENQ is written, the answer read times out, and, when a reopen is due, the open
answers `o`. -/
def silentAttempt (n k : Nat) (o : DevAnswer) : List DevAnswer :=
  List.replicate n (answer .success 0) ++ [answer .timeout 0, answer .success 1, answer .timeout 0] ++
    (if k % Config.reopenPeriod = 0 ∧ k < Config.sendRetryLimit then [o] else [])

/-- The body of a regular frame, from LEN to ETX (30_encoding R98, R103). -/
def regularBody (cmd sub cb : Byte) (data : Bytes) : Bytes :=
  [BitVec.ofNat 8 (data.length + 5), cmd, sub, cb] ++ data ++ [Config.ETX]

/-! ### The contract of the lock (60_exceptions R338) -/

/-- The engine waits in `LockAcquire`: send `enquiry`, or receive `poll` after the device was found readable
(41_send_fsm R165, 42_receive_fsm R206). -/
def waitsForLock : Engine → State → Bool
  | .send, s => s.sRun && decide (s.sState = .enquiry)
  | .recv, s => s.rRun && decide (s.rState = .poll) && decide (s.rPhase = .lock)

/-- An endless run: at moment `n` the turn is `sched n`, and the device's coming answers grow by `env n`. -/
def RunsAs (sched : Nat → Turn) (env : Nat → List DevAnswer) (run : Nat → State) : Prop :=
  ∀ n, step { run n with turns := [sched n], answers := (run n).answers ++ env n } = .next (run (n + 1))

/-- `P` holds again and again from moment `n` on. -/
def AgainAndAgain (n : Nat) (P : Nat → Prop) : Prop := ∀ m, n ≤ m → ∃ k, m ≤ k ∧ P k

/-- Weak fairness of the arbiter, "a waiter is not passed over for ever": an engine that waits for a lock that is free
again and again is eventually granted it (20_memory R77, 60_exceptions R338). -/
def ArbiterFair (run : Nat → State) : Prop :=
  ∀ (e : Engine) (n : Nat), waitsForLock e (run n) = true → AgainAndAgain n (fun k => (run k).lockOwner = none) →
    ∃ k, n ≤ k ∧ (run k).lockOwner = some e

/-- A schedule that gives every engine a turn at some moment at which the lock is free, if the lock is free again and
again. -/
def ScheduleFair (sched : Nat → Turn) (run : Nat → State) : Prop :=
  ∀ (e : Engine) (n : Nat), AgainAndAgain n (fun k => (run k).lockOwner = none) →
    ∃ k, n ≤ k ∧ sched k = .engine e ∧ (run k).lockOwner = none

/-! ### Fairness of held requests (43_orchestrator R268, 93_implementation_defined U13) -/

/-- The number of held requests of the engine's kind. -/
def heldCount : Engine → State → Nat
  | .send, s => s.heldSends.length
  | .recv, s => s.heldReceives

/-- A held request of the engine's kind can be taken: the transport exists and no call of the kind is in progress. -/
def engineFree : Engine → State → Bool
  | .send, s => s.constructed && !s.sRun
  | .recv, s => s.constructed && !s.rRun

/-- The number that the held request number `k` has after the turn `u` has led from `s` to `t`; `none` when the turn took
it, or dropped it with a transport that was constructed anew (log 15). Held receives are all alike, so the first one stands
for the one that is taken. -/
def heldNext (e : Engine) (u : Turn) (s t : State) (k : Nat) : Option Nat :=
  let k' : Option Nat :=
    match e, u with
    | .send, .heldSend j => if s.sRun = true then some k else if j = k then none else some (if j < k then k - 1 else k)
    | .recv, .heldReceive => if s.rRun = true then some k else if k = 0 then none else some (k - 1)
    | _, _ => some k
  k'.filter (fun j => decide (j < heldCount e t))

/-- The number that the request held at moment `n` under the number `k` has `m` moments later; `none` when it is held no
longer. -/
def heldAt (e : Engine) (sched : Nat → Turn) (run : Nat → State) (n k : Nat) : Nat → Option Nat
  | 0 => some k
  | m + 1 => (heldAt e sched run n k m).bind (heldNext e (sched (n + m)) (run (n + m)) (run (n + m + 1)))

/-- Weak fairness towards held requests: one whose engine is free again and again is not held for ever
(93_implementation_defined U13). -/
def HeldFair (sched : Nat → Turn) (run : Nat → State) : Prop :=
  ∀ (e : Engine) (n k : Nat), k < heldCount e (run n) → AgainAndAgain n (fun m => engineFree e (run m) = true) →
    ∃ m, heldAt e sched run n k m = none

/-- The turn that takes the oldest held request. -/
def takeOldest : Engine → Turn
  | .send => .heldSend 0
  | .recv => .heldReceive

/-- A schedule that turns to the oldest held request at some moment at which the engine is free, if it is free again and
again. -/
def OldestFirst (sched : Nat → Turn) (run : Nat → State) : Prop :=
  ∀ (e : Engine) (n : Nat), AgainAndAgain n (fun m => engineFree e (run m) = true) →
    ∃ m, n ≤ m ∧ sched m = takeOldest e ∧ engineFree e (run m) = true

/-- A safe state of the transport. -/
structure Safe (s : State) : Prop where
  lock : LockInv s
  counters : CounterInv s
  tx : TxInv s
  rx : RxInv s

end Sys2Proof.Machine
end

