-- ==== Sys2Proof/Certificates/Slice0/Obligations.lean ====
section
/-! DEFINITION. The statements for the provers. A statement of what an instruction does is an equation for the whole
next state: every field that the record update does not name is unchanged, which is its frame. -/

section

open Sys2Proof Sys2Proof.Machine

/-! ### Encoding -/

/-- Decoding the encoding of a well-formed instruction gives it back, for every instruction and every operand its
encoding admits (30_encoding R90 to R112, 10_state R25). -/
def Obligations.DecodeOfEncode : Prop :=
  ∀ i : Instr, i.wellFormed = true → decode (encode i) = .ok i

/-- A wire unit that decodes is well formed, and its encoding is the bytes that were read (30_encoding R90 to R112). -/
def Obligations.EncodeOfDecodedUnit : Prop :=
  ∀ (ctx : WireContext) (bs : Bytes) (i : Instr), decode (.wire ctx bs) = .ok i →
    i.wellFormed = true ∧ ∃ ctx', encode i = .wire ctx' bs

/-- Words written out from the spec decode to the instructions they stand for, and the events have the numbers the spec
gives them (30_encoding R91 to R102, 10_state R25, 60_exceptions R301, 95_test_vectors V1, V2 and 2.1). -/
def Obligations.WrittenOutWordsDecode : Prop :=
  decode (.wire .answer [0x05]) = .ok .enq ∧
  decode (.wire .answer [0x06]) = .ok .ack ∧
  decode (.wire .answer [0x15]) = .ok .nak ∧
  decode (.wire .delimiter [0xFE]) = .ok .extLen ∧
  (∀ cs : Byte, decode (.wire (.frame false) [0x02, 0x08, 0x01, 0x02, 0x28, 0xF1, 0xF2, 0xF3, 0x03, cs]) =
    .ok (.frameReg 0x01 0x02 0x28 [0xF1, 0xF2, 0xF3] cs)) ∧
  (∀ cs : Byte, decode (.wire (.frame false) [0x02, 0xFE, 0x01, 0x02, 0x28, 0x00, 0x00, 0x06, 0xAA, 0x03, cs]) =
    .ok (.frameExt 0x01 0x02 0x28 [0xAA] cs)) ∧
  (∀ cs : Byte, decode (.wire (.frame true)
      [0x02, 0xFE, 0x01, 0x02, 0x2A, 0x00, 0x00, 0x0D, 0x00, 0x01, 0x00, 0x03, 0xAA, 0x03, cs]) =
    .ok (.frameDivMore 0x01 0x02 0x2A 1 3 [0xAA] cs)) ∧
  (∀ cs : Byte, decode (.wire (.frame true)
      [0x02, 0xFE, 0x01, 0x02, 0x2B, 0x00, 0x00, 0x0D, 0x00, 0x02, 0x00, 0x03, 0xAA, 0x03, cs]) =
    .ok (.frameDivLast 0x01 0x02 0x2B 2 3 [0xAA] cs)) ∧
  decode (.sendState 6) = .ok .sRetry ∧
  decode (.recvState 18) = .ok .rEnd ∧
  [Event.pass, .busy, .wait, .deny, .fail].map eventOrdinal = [0, 1, 2, 3, 4]

/-- What is no instruction is refused by name, whatever follows it: illegal LEN bytes, EXTLEN values out of the range of
their shape, bytes that are no control byte, no delimiter or no STX, a wrong byte in the place of ETX, division flags that
say neither more nor last, a unit cut short, bytes left over after a unit, and the ordinals that name no state (30_encoding
R94, R106, R107, R109, R110, R112, 10_state R25; the EXTLEN ranges are the spec's decision D19). The names of the refusals
and the refusal of what is cut short or left over are the model's own (log 5, 6). -/
def Obligations.IllegalEncodingsAreRefused : Prop :=
  (∀ (mid : Bool) (b : Byte) (r : Bytes), b.toNat ≤ 4 ∨ b = 0xFF →
    decode (.wire (.frame mid) (0x02 :: b :: r)) = .error .illegalLen) ∧
  (∀ (cmd sub cb e2 e1 e0 : Byte) (r : Bytes), e2.toNat * 65536 + e1.toNat * 256 + e0.toNat < 5 →
    decode (.wire (.frame false) ([0x02, 0xFE, cmd, sub, cb, e2, e1, e0] ++ r)) = .error .illegalExtLen) ∧
  (∀ (cmd sub cb e2 e1 e0 : Byte) (r : Bytes), e2.toNat * 65536 + e1.toNat * 256 + e0.toNat < 12 →
    decode (.wire (.frame true) ([0x02, 0xFE, cmd, sub, cb, e2, e1, e0] ++ r)) = .error .illegalExtLen) ∧
  (∀ (mid : Bool) (cmd sub cb e2 e1 e0 : Byte) (r : Bytes), 1036 < e2.toNat * 65536 + e1.toNat * 256 + e0.toNat →
    decode (.wire (.frame mid) ([0x02, 0xFE, cmd, sub, cb, e2, e1, e0] ++ r)) = .error .illegalExtLen) ∧
  (∀ (b : Byte) (r : Bytes), b ≠ 0x05 → b ≠ 0x06 → b ≠ 0x15 →
    decode (.wire .answer (b :: r)) = .error .notAControlByte) ∧
  (∀ (b : Byte) (r : Bytes), b ≠ 0x02 → b ≠ 0x03 → b ≠ 0xFE →
    decode (.wire .delimiter (b :: r)) = .error .notADelimiter) ∧
  (∀ (mid : Bool) (b : Byte) (r : Bytes), b ≠ 0x02 → decode (.wire (.frame mid) (b :: r)) = .error .noStx) ∧
  (∀ (mid : Bool) (cmd sub cb e cs : Byte) (data r : Bytes), e ≠ 0x03 → data.length ≤ 248 →
    decode (.wire (.frame mid)
      ([0x02, BitVec.ofNat 8 (data.length + 5), cmd, sub, cb] ++ data ++ e :: cs :: r)) = .error .noEtx) ∧
  (∀ (cmd sub cb e cs : Byte) (data r : Bytes), e ≠ 0x03 → data.length ≤ 1027 →
    decode (.wire (.frame false)
      ([0x02, 0xFE, cmd, sub, cb] ++ be24 (data.length + 5) ++ data ++ e :: cs :: r)) = .error .noEtx) ∧
  (∀ (cmd sub cb n1 n0 t1 t0 e cs : Byte) (chunk r : Bytes), e ≠ 0x03 → chunk.length ≤ 1024 →
    decode (.wire (.frame true)
      ([0x02, 0xFE, cmd, sub, cb] ++ be24 (chunk.length + 12) ++ [n1, n0, t1, t0] ++ chunk ++ e :: cs :: r)) =
      .error .noEtx) ∧
  (∀ (cmd sub cb n1 n0 t1 t0 cs : Byte) (chunk r : Bytes), cb.toNat % 4 < 2 → chunk.length ≤ 1024 →
    decode (.wire (.frame true)
      ([0x02, 0xFE, cmd, sub, cb] ++ be24 (chunk.length + 12) ++ [n1, n0, t1, t0] ++ chunk ++ 0x03 :: cs :: r)) =
      .error .divisionFlags) ∧
  (∀ ctx : WireContext, decode (.wire ctx []) = .error .emptyUnit) ∧
  (∀ (ctx : WireContext) (bs : Bytes) (i : Instr) (k : Nat), decode (.wire ctx bs) = .ok i → 0 < k → k < bs.length →
    decode (.wire ctx (bs.take k)) = .error .truncated) ∧
  (∀ (ctx : WireContext) (bs : Bytes) (i : Instr) (b : Byte) (r : Bytes), decode (.wire ctx bs) = .ok i →
    decode (.wire ctx (bs ++ b :: r)) = .error .trailingBytes) ∧
  (∀ w : BitVec 4, 12 ≤ w.toNat → decode (.sendState w) = .error .unusedSendOrdinal) ∧
  (∀ w : BitVec 5, 19 ≤ w.toNat → decode (.recvState w) = .error .unusedRecvOrdinal)

/-! ### One step of the block -/

/-- A step takes the next turn and executes the instruction found there: the one the engine's state register names while
the engine runs, the one the bytes of a wire unit decode to, the request that is presented or held. An engine that does
not run takes no step, a request that is not held, or whose engine is running, is not taken, bytes that are no unit are
refused, and with no turn left nothing moves. The turns without an instruction are the environment's and the host's: bytes arrive, the peer takes bytes
(20_memory R71), a result is collected (43_orchestrator R269, 10_state R21 to R23). Turns, held requests, the refusal and
the way a result is collected are the model's form (log 1, 14, 19, 26). A word of the opcode table placed by
`withFetchWord` is the instruction the very next step executes, in the context that `placeCode` supplies (log 1, 5). -/
def Obligations.StepRunsTheDecodedInstruction : Prop :=
  (∀ s : State, s.turns = [] → step s = .next s) ∧
  (∀ (s : State) (rest : List Turn), s.turns = .engine .send :: rest →
    step s = if s.sRun = true then exec (sendInstr s.sState) { s with turns := rest }
      else .next { s with turns := rest }) ∧
  (∀ (s : State) (rest : List Turn), s.turns = .engine .recv :: rest →
    step s = if s.rRun = true then exec (recvInstr s.rState) { s with turns := rest }
      else .next { s with turns := rest }) ∧
  (∀ (s : State) (ctx : WireContext) (bytes : Bytes) (i : Instr) (rest : List Turn),
    s.turns = .unit ctx bytes :: rest → decode (.wire ctx bytes) = .ok i →
    step s = exec i { s with turns := rest }) ∧
  (∀ (s : State) (ctx : WireContext) (bytes : Bytes) (e : DecodeError) (rest : List Turn),
    s.turns = .unit ctx bytes :: rest → decode (.wire ctx bytes) = .error e →
    step s = .refused (.undecodable e)) ∧
  (∀ (s : State) (r : HostRequest) (rest : List Turn), s.turns = .host r :: rest →
    step s = exec (hostInstr r) { s with turns := rest }) ∧
  (∀ (s : State) (r : CodecRequest) (rest : List Turn), s.turns = .codec r :: rest →
    step s = exec (codecInstr r) { s with turns := rest }) ∧
  (∀ (s : State) (k : Nat) (p : Bytes) (rest : List Turn), s.turns = .heldSend k :: rest →
    s.sRun = false → s.heldSends[k]? = some p →
    step s = exec (.send p) { s with turns := rest, heldSends := s.heldSends.eraseIdx k }) ∧
  (∀ (s : State) (k : Nat) (rest : List Turn), s.turns = .heldSend k :: rest →
    s.sRun = true ∨ s.heldSends[k]? = none →
    step s = .next { s with turns := rest }) ∧
  (∀ (s : State) (n : Nat) (rest : List Turn), s.turns = .heldReceive :: rest →
    s.rRun = false → s.heldReceives = n + 1 →
    step s = exec .receive { s with turns := rest, heldReceives := n }) ∧
  (∀ (s : State) (rest : List Turn), s.turns = .heldReceive :: rest →
    s.rRun = true ∨ s.heldReceives = 0 →
    step s = .next { s with turns := rest }) ∧
  (∀ (s : State) (bytes : Bytes) (rest : List Turn), s.turns = .arrive bytes :: rest →
    step s = .next { s with turns := rest, devIn := s.devIn ++ bytes }) ∧
  (∀ (s : State) (n : Nat) (rest : List Turn), s.turns = .deliver n :: rest →
    step s = .next { s with turns := rest, devOut := s.devOut.drop n }) ∧
  (∀ (s : State) (k : Nat) (r : HostResponse) (rest : List Turn), s.turns = .collect k :: rest →
    s.returns[k]? = some r →
    step s = .next { s with turns := rest, returns := s.returns.eraseIdx k, hostOut := s.hostOut ++ [r] }) ∧
  (∀ (s : State) (k : Nat) (rest : List Turn), s.turns = .collect k :: rest → s.returns[k]? = none →
    step s = .next { s with turns := rest }) ∧
  (∀ (s : State) (nbits w : Nat) (i : Instr), decodeTableWord nbits w = some i →
    step (s.withFetchWord nbits w) = exec i { placeCode (tableCode nbits w) s with turns := s.turns })

/-- An engine whose device call has not answered, or that waits for the lock, keeps its state, and with it the state of
the whole block; so does `construct` while the open has not answered. A call has not answered while no answer has come, and
a timed read also when the answer that came is a success that neither the stream nor, with the device closed, the answer
itself can serve yet (60_exceptions R317, 43_orchestrator R269). That a turn spent waiting is a step that changes nothing is
the model's form of it (log 2, 3, 29). -/
def Obligations.WaitingEngineChangesNothing : Prop :=
  (∀ s : State, s.lockOwner = some .recv → exec .sEnquiry s = .next s) ∧
  (∀ s : State, s.lockOwner = some .send → s.rPhase = .lock → exec .rPoll s = .next s) ∧
  (∀ s : State, s.answers = [] →
    exec .sReenquiry s = .next s ∧ exec .sAck s = .next s ∧ exec .sAck2 s = .next s ∧ exec .sNak s = .next s ∧
    exec .rEnquiry s = .next s ∧ exec .rAck s = .next s ∧ exec .rAck2 s = .next s ∧ exec .rNak s = .next s ∧
    (s.txCursor.toNat < s.txf.length → exec .sFrame s = .next s) ∧
    (s.sPhase = .reopen → exec .sRetry s = .next s) ∧
    (s.rPhase ≠ .lock → exec .rPoll s = .next s) ∧
    (s.sRun = false → s.rRun = false → exec .construct s = .next s)) ∧
  (∀ s : State, s.answers = [] → s.rxf ≠ [] →
    exec .rStx s = .next s ∧ exec .rLen s = .next s ∧ exec .rDatacmd s = .next s ∧ exec .rEtx s = .next s ∧
    exec .rCs s = .next s ∧ (s.rxShape ≠ .regular → exec .rDataextlen s = .next s) ∧
    (s.rxShape = .divided → exec .rDataframenumber s = .next s) ∧
    (∀ n : Nat, 0 < n →
      (s.rxShape = .regular ∨ s.rxShape = .extended) ∧ s.rxLen.toNat = n + 5 ∨
        s.rxShape = .divided ∧ s.rxLen.toNat = n + 12 →
      exec .rData s = .next s)) ∧
  (∀ (s : State) (a : DevAnswer) (rest : List DevAnswer), s.answers = a :: rest → a.status = .success →
    s.deviceOpen = true ∨ a.stream = [] →
    (s.devIn = [] → exec .sAck s = .next s ∧ exec .sAck2 s = .next s) ∧
    (s.rxf ≠ [] →
      (s.devIn = [] →
        exec .rStx s = .next s ∧ exec .rLen s = .next s ∧ exec .rEtx s = .next s ∧ exec .rCs s = .next s) ∧
      (s.devIn.length < 3 →
        exec .rDatacmd s = .next s ∧ (s.rxShape ≠ .regular → exec .rDataextlen s = .next s)) ∧
      (s.devIn.length < 4 → s.rxShape = .divided → exec .rDataframenumber s = .next s) ∧
      (∀ n : Nat, s.devIn.length < n →
        (s.rxShape = .regular ∨ s.rxShape = .extended) ∧ s.rxLen.toNat = n + 5 ∨
          s.rxShape = .divided ∧ s.rxLen.toNat = n + 12 →
        exec .rData s = .next s)))

/-! ### Reset -/

/-- What construction leaves in the registers the spec gives a value for (10_state R47, 70_reset_and_hazards R351; the
values are the spec's own decision D25). -/
def Obligations.ConstructionValues : Prop :=
  State.reset.lockOwner = none ∧ State.reset.r1 = 0 ∧ State.reset.r2 = 0 ∧ State.reset.sRun = false ∧
  State.reset.rRun = false ∧ State.reset.txf = [] ∧ State.reset.rxf = [] ∧ State.reset.rxPayload = none

/-- The state after construction is safe: it meets the four invariants. That the lock is free, the counters are 0 and both
engines are stopped is the spec's own decision D25 (10_state R47, 70_reset_and_hazards R351); the values of log 11 play no
part in it. -/
def Obligations.ResetIsSafe : Prop := Safe State.reset

/-! ### Wire units -/

/-- Each wire unit, when the peer sends it, joins the input stream with exactly the bytes of its encoding and changes
nothing else (30_encoding R91 to R102 for the bytes; the arrival is the model's reading of 43_orchestrator R269 and
20_memory R75, log 4). -/
def Obligations.WireUnitJoinsTheInputStream : Prop :=
  (∀ s : State, exec .enq s = .next { s with devIn := s.devIn ++ [0x05] }) ∧
  (∀ s : State, exec .ack s = .next { s with devIn := s.devIn ++ [0x06] }) ∧
  (∀ s : State, exec .nak s = .next { s with devIn := s.devIn ++ [0x15] }) ∧
  (∀ s : State, exec .stx s = .next { s with devIn := s.devIn ++ [0x02] }) ∧
  (∀ s : State, exec .etx s = .next { s with devIn := s.devIn ++ [0x03] }) ∧
  (∀ s : State, exec .extLen s = .next { s with devIn := s.devIn ++ [0xFE] }) ∧
  (∀ (s : State) (cmd sub cb : Byte) (data : Bytes) (cs : Byte),
    exec (.frameReg cmd sub cb data cs) s = .next { s with
      devIn := s.devIn ++ ([0x02, BitVec.ofNat 8 (data.length + 5), cmd, sub, cb] ++ data ++ [0x03, cs]) }) ∧
  (∀ (s : State) (cmd sub cb : Byte) (data : Bytes) (cs : Byte),
    exec (.frameExt cmd sub cb data cs) s = .next { s with
      devIn := s.devIn ++ ([0x02, 0xFE, cmd, sub, cb] ++ be24 (data.length + 5) ++ data ++ [0x03, cs]) }) ∧
  (∀ (s : State) (cmd sub cb : Byte) (no cnt : BitVec 16) (chunk : Bytes) (cs : Byte),
    exec (.frameDivMore cmd sub cb no cnt chunk cs) s = .next { s with
      devIn := s.devIn ++ ([0x02, 0xFE, cmd, sub, cb] ++ be24 (chunk.length + 12) ++ be16 no.toNat ++
        be16 cnt.toNat ++ chunk ++ [0x03, cs]) }) ∧
  (∀ (s : State) (cmd sub cb : Byte) (no cnt : BitVec 16) (chunk : Bytes) (cs : Byte),
    exec (.frameDivLast cmd sub cb no cnt chunk cs) s = .next { s with
      devIn := s.devIn ++ ([0x02, 0xFE, cmd, sub, cb] ++ be24 (chunk.length + 12) ++ be16 no.toNat ++
        be16 cnt.toNat ++ chunk ++ [0x03, cs]) })

/-! ### The send engine -/

/-- Send `idle` resets `r2`, send `wait` releases the lock and then sleeps, send `error` marks failure; each ends with
`Pass` and changes nothing else (41_send_fsm R164, R172, R174; the sleep without effect is decision D2). That the two
primitives of `wait` are two turns, told apart by `sPhase`, is the model's form of 43_orchestrator R269 (log 13). -/
def Obligations.SendIdleWaitError : Prop :=
  (∀ s : State, exec .sIdle s = .next { s with r2 := 0, sEvent := .pass, sState := .enquiry, sPhase := .start }) ∧
  (∀ s : State, s.sPhase ≠ .sleep → exec .sWait s = .next { s with
    lockOwner := if s.lockOwner = some .send then none else s.lockOwner, sPhase := .sleep }) ∧
  (∀ s : State, s.sPhase = .sleep →
    exec .sWait s = .next { s with sEvent := .pass, sState := .enquiry, sPhase := .start }) ∧
  (∀ s : State, exec .sError s = .next { s with
    txOk := false, sEvent := .pass, sState := .end_, sPhase := .start })

/-- The contract of the lock. Send `enquiry` takes it when the receive engine does not own it and emits `Pass`; nothing else
changes. In an endless run whose schedule gives every engine a turn when the lock is free, if it is free again and again,
no waiter is passed over for ever (41_send_fsm R165, 10_state R40, 20_memory R77, 60_exceptions R338; the contract is the
spec's decision D14). Turns and their schedule are the model's form of the arbiter (log 1, 24). -/
def Obligations.LockIsTakenAndGranted : Prop :=
  (∀ s : State, s.lockOwner ≠ some .recv →
    exec .sEnquiry s = .next { s with
      lockOwner := some .send, sEvent := .pass, sState := .reenquiry, sPhase := .start }) ∧
  (∀ (sched : Nat → Turn) (env : Nat → List DevAnswer) (run : Nat → State),
    RunsAs sched env run → ScheduleFair sched run → ArbiterFair run)

/-- Send `reenquiry` reads the input stream a byte at a time until a read finds none, discards what it reads and then
writes ENQ: every byte that reached the stream of an open device before the drain ended is gone. A closed device may end the
drain as it likes, and hand out a byte its stream does not hold (60_exceptions R332, log 29). The event is `Pass` when the byte was
written, `Deny` when the write timed out and `Fail` otherwise; an error while draining is `Fail` and nothing is written
(41_send_fsm R166, 20_memory R67, R72, R76; decisions D11, D12, D13). The first clauses say each primitive, the last one
the whole action: `oks` are the answers to the reads that gave a byte, `a` the answer that ended the drain, `w` the answer
to the write. The phases and turns are the model's form (log 1, 13); that with deadline zero the stream and not the answer
decides between a byte and a timeout, and the stream after an error, are log 3. -/
def Obligations.SendReenquiryDrainsThenWritesEnq : Prop :=
  (∀ (s : State) (a : DevAnswer) (rest : List DevAnswer), s.sPhase ≠ .write → s.answers = a :: rest →
    (∀ (b : Byte) (bs : Bytes), a.status = .success ∨ s.deviceOpen = true ∧ a.status ≠ .error → s.devIn = b :: bs →
      exec .sReenquiry s = .next { s with answers := rest, devIn := bs }) ∧
    (a.status = .timeout ∨ s.deviceOpen = true ∧ a.status ≠ .error → s.devIn = [] →
      exec .sReenquiry s = .next { s with answers := rest, sPhase := .write }) ∧
    (s.deviceOpen = false → a.status = .timeout →
      exec .sReenquiry s = .next { s with answers := rest, sPhase := .write }) ∧
    (s.deviceOpen = false → a.status = .success → s.devIn = [] →
      exec .sReenquiry s = .next { s with answers := rest, sPhase := if a.stream = [] then .write else s.sPhase }) ∧
    (a.status = .error →
      exec .sReenquiry s = .next { s with
        answers := rest, devIn := a.stream, sEvent := .fail, sState := .retry, sPhase := .start })) ∧
  (∀ (s : State) (w : DevAnswer) (rest : List DevAnswer), s.sPhase = .write → s.answers = w :: rest →
    exec .sReenquiry s = .next { s with
      answers := rest, devOut := if w.count = 0 then s.devOut else s.devOut ++ [0x05],
      sEvent := (match w.status with
        | .success => if w.count = 0 then .fail else .pass
        | .timeout => .deny
        | .error => .fail),
      sState := if w.status = .success ∧ w.count ≠ 0 then .ack else .retry, sPhase := .start }) ∧
  (∀ (s : State) (oks : List DevAnswer) (a w : DevAnswer) (rest : List DevAnswer) (turns : List Turn),
    s.sRun = true → s.sState = .reenquiry → s.sPhase = .start →
    (∀ x ∈ oks, x.status = .success ∨ s.deviceOpen = true ∧ x.status ≠ .error) → oks.length = s.devIn.length →
    a.status = .timeout ∨ s.deviceOpen = true ∧ a.status ≠ .error →
    s.answers = oks ++ a :: w :: rest →
    s.turns = List.replicate (oks.length + 2) (.engine .send) ++ turns →
    runFor (oks.length + 2) s = some { s with
      turns := turns, answers := rest, devIn := [],
      devOut := if w.count = 0 then s.devOut else s.devOut ++ [0x05],
      sEvent := (match w.status with
        | .success => if w.count = 0 then .fail else .pass
        | .timeout => .deny
        | .error => .fail),
      sState := if w.status = .success ∧ w.count ≠ 0 then .ack else .retry })

/-- Send `ack` and send `ack2` classify one answer read: ACK is `Pass`, NAK is `Busy`, ENQ is `Wait`, any other byte or
no byte in time is `Deny`, an I/O error is `Fail`; one byte is taken on success and none otherwise; from `ack` the
engine goes to `frame`, `reenquiry`, `nak` or `retry`, from `ack2` to `done` or `retry`, and no other register changes
(41_send_fsm R163, R167, R169). -/
def Obligations.SendAnswerIsClassified : Prop :=
  ∀ (s : State) (a : DevAnswer) (rest : List DevAnswer), s.answers = a :: rest →
    (∀ (b : Byte) (bs : Bytes), a.status = .success → s.devIn = b :: bs →
      exec .sAck s = .next { s with
        answers := rest, devIn := bs,
        sEvent := if b = 0x06 then .pass else if b = 0x15 then .busy else if b = 0x05 then .wait else .deny,
        sState := if b = 0x06 then .frame else if b = 0x15 then .reenquiry else if b = 0x05 then .nak
          else .retry, sPhase := .start } ∧
      exec .sAck2 s = .next { s with
        answers := rest, devIn := bs,
        sEvent := if b = 0x06 then .pass else if b = 0x15 then .busy else if b = 0x05 then .wait else .deny,
        sState := if b = 0x06 then .done else .retry, sPhase := .start }) ∧
    (a.status = .timeout →
      exec .sAck s = .next { s with answers := rest, sEvent := .deny, sState := .retry, sPhase := .start } ∧
      exec .sAck2 s = .next { s with answers := rest, sEvent := .deny, sState := .retry, sPhase := .start }) ∧
    (a.status = .error →
      exec .sAck s = .next { s with answers := rest, sEvent := .fail, sState := .retry, sPhase := .start } ∧
      exec .sAck2 s = .next { s with answers := rest, sEvent := .fail, sState := .retry, sPhase := .start })

/-- Send `frame` hands the frame at the cursor to the device in one call and send `nak` the byte NAK; the bytes written
are the first ones of what was handed over; the event is `Pass` on full success, `Deny` on a timeout and `Fail`
otherwise (41_send_fsm R168, R171, 60_exceptions R335; decision D13). -/
def Obligations.SendFrameAndNakWrite : Prop :=
  ∀ (s : State) (a : DevAnswer) (rest : List DevAnswer), s.answers = a :: rest →
    (∀ f : Frame, s.txf[s.txCursor.toNat]? = some f →
      exec .sFrame s = .next { s with
        answers := rest, devOut := s.devOut ++ f.take a.count,
        sEvent := (match a.status with
          | .success => if f.length ≤ a.count then .pass else .fail
          | .timeout => .deny
          | .error => .fail),
        sState := if a.status = .success ∧ f.length ≤ a.count then .ack2 else .retry, sPhase := .start }) ∧
    exec .sNak s = .next { s with
      answers := rest, devOut := if a.count = 0 then s.devOut else s.devOut ++ [0x15],
      sEvent := (match a.status with
        | .success => if a.count = 0 then .fail else .pass
        | .timeout => .deny
        | .error => .fail),
      sState := if a.status = .success ∧ a.count ≠ 0 then .wait else .retry, sPhase := .start }

/-- Send `retry`: the increment, then the ceiling test. Below 240 the lock is released, the engine sleeps, and at every
sixth count the device is closed and opened, its result not looked at, before `Pass`; at the ceiling `Fail` with the lock
kept (41_send_fsm R170, 60_exceptions R305, R312; decisions D2, D7). Each primitive is a turn, told apart by `sPhase`, the
model's form of 43_orchestrator R269 (log 13); that a close keeps the input stream is log 28, that it is any value after
the open is log 3. -/
def Obligations.SendRetryCountsReleasesReopens : Prop :=
  (∀ s : State, s.sPhase = .start ∨ s.sPhase = .write → s.r2.toNat + 1 < 240 →
    exec .sRetry s = .next { s with
      r2 := s.r2 + 1, lockOwner := if s.lockOwner = some .send then none else s.lockOwner, sPhase := .sleep }) ∧
  (∀ s : State, s.sPhase = .start ∨ s.sPhase = .write → 240 ≤ s.r2.toNat + 1 →
    exec .sRetry s = .next { s with r2 := s.r2 + 1, sEvent := .fail, sState := .error, sPhase := .start }) ∧
  (∀ s : State, s.sPhase = .sleep → s.r2.toNat % 6 ≠ 0 →
    exec .sRetry s = .next { s with sEvent := .pass, sState := .enquiry, sPhase := .start }) ∧
  (∀ s : State, s.sPhase = .sleep → s.r2.toNat % 6 = 0 → exec .sRetry s = .next { s with sPhase := .close }) ∧
  (∀ s : State, s.sPhase = .close → exec .sRetry s = .next { s with deviceOpen := false, sPhase := .reopen }) ∧
  (∀ (s : State) (a : DevAnswer) (rest : List DevAnswer), s.sPhase = .reopen → s.answers = a :: rest →
    exec .sRetry s = .next { s with
      answers := rest, deviceOpen := a.opened, devIn := a.stream, sEvent := .pass, sState := .enquiry,
      sPhase := .start })

/-- Send `done`: with a further frame the cursor advances and the event is `Wait`, which leads to `reenquiry`; otherwise
`tx_ok` is set and the event is `Pass`, which leads to `end`; nothing else changes (41_send_fsm R173). -/
def Obligations.SendDoneAdvancesOrSucceeds : Prop :=
  ∀ s : State,
    exec .sDone s =
      if s.txCursor.toNat + 1 < s.txf.length then
        .next { s with txCursor := s.txCursor + 1, sEvent := .wait, sState := .reenquiry, sPhase := .start }
      else .next { s with txOk := true, sEvent := .pass, sState := .end_, sPhase := .start }

/-- Send `end` releases the lock, ends the call and has `tx_ok` as the call's result, which the host can collect; the state
and event registers, the frame store, the cursor and the payload register hold no defined value after it, whether the call
failed or not, the counter `r2` keeps its value, and nothing else of the spec's state changes (41_send_fsm R175,
43_orchestrator R262, R269, R271, 10_state R46). The undefined values are free values of the model (log 12), that of
`tx_payload` is log 27, results to be collected log 19. -/
def Obligations.SendEndReleasesAndReturns : Prop :=
  ∀ s : State, ∃ (ss : SendState) (ev : Event) (fs : List Frame) (cur : BitVec 16) (pl : Bytes),
    exec .sEnd s = .next { s with
      sRun := false, lockOwner := if s.lockOwner = some .send then none else s.lockOwner,
      returns := s.returns ++ [.sendResult s.txOk], sPhase := .start,
      sState := ss, sEvent := ev, txf := fs, txCursor := cur, txPayload := pl, freeCount := s.freeCount + 1 }

/-! ### The receive engine -/

/-- Receive `idle` resets `r1` and receive `error` marks failure; each emits `Pass` always and changes nothing else
(42_receive_fsm R205, R223). -/
def Obligations.RecvIdleAndError : Prop :=
  (∀ s : State, exec .rIdle s = .next { s with r1 := 0, rEvent := .pass, rState := .poll, rPhase := .start }) ∧
  (∀ s : State, exec .rError s = .next { s with
    rxOk := false, rEvent := .pass, rState := .end_, rPhase := .start })

/-- Receive `poll` polls without the lock, consumes nothing, and, once the device is readable, takes the lock when the send
engine does not own it; any other answer is `Fail`. Receive `repoll` releases the lock and does nothing else
(42_receive_fsm R206, R207; decisions D10, D36). That the poll and the acquisition are two turns, told apart by `rPhase`,
is the model's form of 43_orchestrator R269 (log 13). -/
def Obligations.RecvPollAndRepoll : Prop :=
  (∀ (s : State) (a : DevAnswer) (rest : List DevAnswer), s.rPhase ≠ .lock → s.answers = a :: rest →
    (a.status = .success → exec .rPoll s = .next { s with answers := rest, rPhase := .lock }) ∧
    (a.status ≠ .success →
      exec .rPoll s = .next { s with answers := rest, rEvent := .fail, rState := .error, rPhase := .start })) ∧
  (∀ s : State, s.rPhase = .lock → s.lockOwner ≠ some .send →
    exec .rPoll s = .next { s with
      lockOwner := some .recv, rEvent := .pass, rState := .enquiry, rPhase := .start }) ∧
  (∀ s : State, exec .rRepoll s = .next { s with
    lockOwner := if s.lockOwner = some .recv then none else s.lockOwner, rEvent := .pass, rState := .poll,
    rPhase := .start })

/-- Receive `enquiry` reads the input stream a byte at a time until a read finds none and classifies the last byte it took:
ENQ is `Pass`, NAK or no byte at all is `Busy`, any other byte is `Deny`; an I/O error is `Fail`. Every byte that
reached the stream of an open device before the drain ended is gone, and no other register changes; a closed device may end
the drain as it likes, and hand out a byte its stream does not hold: 60_exceptions R332, log 29 (42_receive_fsm R208, 20_memory R67, R72,
R76; decision D12). The first clauses say each read, the last one the whole action: `oks` are the answers to the reads
that gave a byte, `a` the answer that ended the drain. The phase and the turns are the model's form (log 1, 13); that with
deadline zero the stream and not the answer decides between a byte and a timeout is log 3. -/
def Obligations.RecvEnquiryClassifiesTheLastByte : Prop :=
  (∀ (s : State) (a : DevAnswer) (rest : List DevAnswer), s.answers = a :: rest →
    (∀ (b : Byte) (bs : Bytes), a.status = .success ∨ s.deviceOpen = true ∧ a.status ≠ .error → s.devIn = b :: bs →
      exec .rEnquiry s = .next { s with answers := rest, devIn := bs, rPhase := .drained b }) ∧
    (∀ (b : Byte) (bs : Bytes), s.deviceOpen = false → a.status = .success → s.devIn = [] → a.stream = b :: bs →
      exec .rEnquiry s = .next { s with answers := rest, rPhase := .drained b }) ∧
    ((a.status = .timeout ∧ (s.deviceOpen = false ∨ s.devIn = [])) ∨
        (a.status = .success ∧ s.devIn = [] ∧ (s.deviceOpen = true ∨ a.stream = [])) →
      exec .rEnquiry s = .next { s with
        answers := rest, rPhase := .start,
        rEvent := (match s.rPhase with
          | .drained b => if b = 0x05 then .pass else if b = 0x15 then .busy else .deny
          | _ => .busy),
        rState := (match s.rPhase with
          | .drained b => if b = 0x05 then .ack else if b = 0x15 then .repoll else .retry
          | _ => .repoll) }) ∧
    (a.status = .error → ∃ inp : Bytes,
      exec .rEnquiry s = .next { s with
        answers := rest, devIn := inp, rEvent := .fail, rState := .error, rPhase := .start })) ∧
  (∀ (s : State) (oks : List DevAnswer) (a : DevAnswer) (rest : List DevAnswer) (turns : List Turn),
    s.rRun = true → s.rState = .enquiry → s.rPhase = .start →
    (∀ x ∈ oks, x.status = .success ∨ s.deviceOpen = true ∧ x.status ≠ .error) → oks.length = s.devIn.length →
    a.status = .timeout ∨ s.deviceOpen = true ∧ a.status ≠ .error → s.answers = oks ++ a :: rest →
    s.turns = List.replicate (oks.length + 1) (.engine .recv) ++ turns →
    runFor (oks.length + 1) s = some { s with
      turns := turns, answers := rest, devIn := [],
      rEvent := (match s.devIn.getLast? with
        | some b => if b = 0x05 then .pass else if b = 0x15 then .busy else .deny
        | none => .busy),
      rState := (match s.devIn.getLast? with
        | some b => if b = 0x05 then .ack else if b = 0x15 then .repoll else .retry
        | none => .repoll) })

/-- Receive `ack`, `ack2` and `nak` write ACK, ACK and NAK; with full success the engine goes on to `stx`, `done` and
`retry`, and any other result is `Fail`, which leads to `error` (42_receive_fsm R209, R219, R220; decision D31). -/
def Obligations.RecvAckAck2NakWrite : Prop :=
  ∀ (s : State) (a : DevAnswer) (rest : List DevAnswer), s.answers = a :: rest →
    exec .rAck s = .next { s with
      answers := rest, devOut := if a.count = 0 then s.devOut else s.devOut ++ [0x06],
      rEvent := if a.status = .success ∧ a.count ≠ 0 then .pass else .fail,
      rState := if a.status = .success ∧ a.count ≠ 0 then .stx else .error, rPhase := .start } ∧
    exec .rAck2 s = .next { s with
      answers := rest, devOut := if a.count = 0 then s.devOut else s.devOut ++ [0x06],
      rEvent := if a.status = .success ∧ a.count ≠ 0 then .pass else .fail,
      rState := if a.status = .success ∧ a.count ≠ 0 then .done else .error, rPhase := .start } ∧
    exec .rNak s = .next { s with
      answers := rest, devOut := if a.count = 0 then s.devOut else s.devOut ++ [0x15],
      rEvent := if a.status = .success ∧ a.count ≠ 0 then .pass else .fail,
      rState := if a.status = .success ∧ a.count ≠ 0 then .retry else .error, rPhase := .start }

/-- Receive `stx` and receive `etx` read one byte, append it to the frame in progress and expect 0x02 and 0x03: that
byte is `Pass`, any other is `Deny`, which leads to `nak` (42_receive_fsm R210, R217). A timeout takes nothing, an I/O
error may leave any stream; both lead to `error` and append nothing (42_receive_fsm R204, 60_exceptions R333), and that
the event is then called `Fail` is the spec's decision D9. -/
def Obligations.RecvStxAndEtxExpectOneByte : Prop :=
  ∀ (s : State) (a : DevAnswer) (rest : List DevAnswer), s.answers = a :: rest → s.rxf ≠ [] →
    (∀ (b : Byte) (bs : Bytes), a.status = .success → s.devIn = b :: bs →
      exec .rStx s = .next { s with
        answers := rest, devIn := bs, rxf := s.rxf.dropLast ++ [s.rxf.getLastD [] ++ [b]],
        rEvent := if b = 0x02 then .pass else .deny, rState := if b = 0x02 then .len else .nak,
        rPhase := .start } ∧
      exec .rEtx s = .next { s with
        answers := rest, devIn := bs, rxf := s.rxf.dropLast ++ [s.rxf.getLastD [] ++ [b]],
        rEvent := if b = 0x03 then .pass else .deny, rState := if b = 0x03 then .cs else .nak,
        rPhase := .start }) ∧
    (a.status ≠ .success → ∃ inp : Bytes, (a.status = .timeout → inp = s.devIn) ∧
      exec .rStx s = .next { s with
        answers := rest, devIn := inp, rEvent := .fail, rState := .error, rPhase := .start } ∧
      exec .rEtx s = .next { s with
        answers := rest, devIn := inp, rEvent := .fail, rState := .error, rPhase := .start })

/-- Receive `len`: the byte is appended; the marker 0xFE defers the shape, 5 to 253 fixes the regular shape with that
length, and 0 to 4 or 255 is `Deny` with the shape and the length unchanged (42_receive_fsm R211). A timeout takes
nothing, an I/O error may leave any stream; both lead to `error` and append nothing (42_receive_fsm R204, 60_exceptions
R333; decision D9). -/
def Obligations.RecvLenFixesOrDefersTheShape : Prop :=
  ∀ (s : State) (a : DevAnswer) (rest : List DevAnswer), s.answers = a :: rest → s.rxf ≠ [] →
    (∀ (b : Byte) (bs : Bytes), a.status = .success → s.devIn = b :: bs →
      exec .rLen s =
        if b.toNat = 254 then .next { s with
          answers := rest, devIn := bs, rxf := s.rxf.dropLast ++ [s.rxf.getLastD [] ++ [b]],
          rxShape := .extPending, rEvent := .pass, rState := .datacmd, rPhase := .start }
        else if 5 ≤ b.toNat ∧ b.toNat ≤ 253 then .next { s with
          answers := rest, devIn := bs, rxf := s.rxf.dropLast ++ [s.rxf.getLastD [] ++ [b]],
          rxShape := .regular, rxLen := BitVec.ofNat 24 b.toNat, rEvent := .pass, rState := .datacmd,
          rPhase := .start }
        else .next { s with
          answers := rest, devIn := bs, rxf := s.rxf.dropLast ++ [s.rxf.getLastD [] ++ [b]],
          rEvent := .deny, rState := .nak, rPhase := .start }) ∧
    (a.status ≠ .success → ∃ inp : Bytes, (a.status = .timeout → inp = s.devIn) ∧
      exec .rLen s = .next { s with
        answers := rest, devIn := inp, rEvent := .fail, rState := .error, rPhase := .start })

/-- Receive `datacmd` stores three header bytes unexamined; receive `dataframenumber` is passed through unless the shape
is divided, and then stores FRAMENO and FRAMECOUNT, most significant byte first, unchecked; receive `data` reads
`rx_len - 5` bytes for a regular or undivided frame and `rx_len - 12` for a divided one, with no device access when that
is none (42_receive_fsm R212, R215, R216; decisions D16, D17, D18). -/
def Obligations.RecvHeaderNumbersAndData : Prop :=
  (∀ (s : State) (a : DevAnswer) (rest : List DevAnswer), s.answers = a :: rest → a.status = .success →
    s.rxf ≠ [] → 3 ≤ s.devIn.length →
    exec .rDatacmd s = .next { s with
      answers := rest, devIn := s.devIn.drop 3,
      rxf := s.rxf.dropLast ++ [s.rxf.getLastD [] ++ s.devIn.take 3],
      rEvent := .pass, rState := .dataextlen, rPhase := .start }) ∧
  (∀ s : State, s.rxShape ≠ .divided →
    exec .rDataframenumber s = .next { s with rEvent := .pass, rState := .data, rPhase := .start }) ∧
  (∀ (s : State) (a : DevAnswer) (rest : List DevAnswer) (n1 n0 t1 t0 : Byte) (bs : Bytes),
    s.answers = a :: rest → a.status = .success → s.rxf ≠ [] → s.rxShape = .divided →
    s.devIn = n1 :: n0 :: t1 :: t0 :: bs →
    exec .rDataframenumber s = .next { s with
      answers := rest, devIn := bs, rxf := s.rxf.dropLast ++ [s.rxf.getLastD [] ++ [n1, n0, t1, t0]],
      rxFrameNo := n1 ++ n0, rxFrameCnt := t1 ++ t0, rEvent := .pass, rState := .data, rPhase := .start }) ∧
  (∀ (s : State) (n : Nat),
    (s.rxShape = .regular ∨ s.rxShape = .extended) ∧ s.rxLen.toNat = n + 5 ∨
      s.rxShape = .divided ∧ s.rxLen.toNat = n + 12 →
    (n = 0 → exec .rData s = .next { s with rEvent := .pass, rState := .etx, rPhase := .start }) ∧
    (∀ (a : DevAnswer) (rest : List DevAnswer), 0 < n → s.answers = a :: rest → a.status = .success →
      s.rxf ≠ [] → n ≤ s.devIn.length →
      exec .rData s = .next { s with
        answers := rest, devIn := s.devIn.drop n,
        rxf := s.rxf.dropLast ++ [s.rxf.getLastD [] ++ s.devIn.take n],
        rEvent := .pass, rState := .etx, rPhase := .start }))

/-- Receive `dataextlen` is passed through for the regular shape; otherwise it stores EXTLEN and selects the divided
shape when a frame of the message has been completed or EXTLEN is above 1032, and the undivided one otherwise; an EXTLEN
out of the range of the selected shape is `Deny` and leaves the shape (42_receive_fsm R213, R214, 60_exceptions R312;
decisions D16, D19). -/
def Obligations.RecvDataextlenSelectsTheShape : Prop :=
  (∀ s : State, s.rxShape = .regular →
    exec .rDataextlen s = .next { s with rEvent := .pass, rState := .dataframenumber, rPhase := .start }) ∧
  (∀ (s : State) (a : DevAnswer) (rest : List DevAnswer) (e2 e1 e0 : Byte) (bs : Bytes) (v : Nat),
    s.rxShape ≠ .regular → s.answers = a :: rest → a.status = .success → s.rxf ≠ [] →
    s.devIn = e2 :: e1 :: e0 :: bs → v = e2.toNat * 65536 + e1.toNat * 256 + e0.toNat →
    exec .rDataextlen s =
      if (if 1 < s.rxf.length ∨ 1032 < v then 12 ≤ v ∧ v ≤ 1036 else 5 ≤ v) then .next { s with
        answers := rest, devIn := bs, rxf := s.rxf.dropLast ++ [s.rxf.getLastD [] ++ [e2, e1, e0]],
        rxLen := BitVec.ofNat 24 v,
        rxShape := if 1 < s.rxf.length ∨ 1032 < v then .divided else .extended,
        rEvent := .pass, rState := .dataframenumber, rPhase := .start }
      else .next { s with
        answers := rest, devIn := bs, rxf := s.rxf.dropLast ++ [s.rxf.getLastD [] ++ [e2, e1, e0]],
        rxLen := BitVec.ofNat 24 v, rEvent := .deny, rState := .nak, rPhase := .start })

/-- Receive `cs` compares the next byte with the checksum of everything buffered but STX: equal is `Pass` and leads to
`ack2`, different is `Deny`; a timeout is `Deny` and an I/O error is `Fail`, and every event but `Pass` leads to `nak`
(42_receive_fsm R218). Nothing is said of the stream after an error. -/
def Obligations.RecvCsComparesTheChecksum : Prop :=
  ∀ (s : State) (a : DevAnswer) (rest : List DevAnswer), s.answers = a :: rest → s.rxf ≠ [] →
    (∀ (b : Byte) (bs : Bytes), a.status = .success → s.devIn = b :: bs →
      exec .rCs s = .next { s with
        answers := rest, devIn := bs, rxf := s.rxf.dropLast ++ [s.rxf.getLastD [] ++ [b]],
        rEvent := if b = Config.checksum (s.rxf.getLastD []).tail then .pass else .deny,
        rState := if b = Config.checksum (s.rxf.getLastD []).tail then .ack2 else .nak, rPhase := .start }) ∧
    (a.status = .timeout → exec .rCs s = .next { s with answers := rest, rEvent := .deny, rState := .nak, rPhase := .start }) ∧
    (a.status = .error → ∃ inp : Bytes,
      exec .rCs s = .next { s with answers := rest, devIn := inp, rEvent := .fail, rState := .nak, rPhase := .start })

/-- A field read that misses its deadline or meets an I/O error ends the action of each of the seven field states with
`Fail`, which leads to `error`: no NAK is written, `r1` and the frame store keep their values (42_receive_fsm R204;
decisions D9, D24). What a timed-out read of several bytes leaves of the stream is a suffix, and what an error leaves is
open (93_implementation_defined U7, 60_exceptions R333; log 3). -/
def Obligations.RecvFieldFailureAborts : Prop :=
  ∀ (s : State) (a : DevAnswer) (rest : List DevAnswer) (i : Instr),
    s.answers = a :: rest → a.status ≠ .success → s.rxf ≠ [] →
    i = .rStx ∨ i = .rLen ∨ i = .rDatacmd ∨ (i = .rDataextlen ∧ s.rxShape ≠ .regular) ∨
      (i = .rDataframenumber ∧ s.rxShape = .divided) ∨
      (i = .rData ∧ (s.rxShape = .regular ∧ 5 < s.rxLen.toNat ∨ s.rxShape = .extended ∧ 5 < s.rxLen.toNat ∨
        s.rxShape = .divided ∧ 12 < s.rxLen.toNat)) ∨ i = .rEtx →
    ∃ inp : Bytes, (a.status = .timeout → inp <:+ s.devIn) ∧
      exec i s = .next { s with answers := rest, devIn := inp, rEvent := .fail, rState := .error, rPhase := .start }

/-- Receive `retry`: the increment, the emptied buffer of the frame in progress and the cleared shape come first, then
the ceiling test against 5; completed frames stay. Receive `done`: a divided frame with FRAMENO + 1 not equal to
FRAMECOUNT, in integers, gets an empty buffer appended and `Wait`; otherwise `rx_ok` is set and the event is `Pass`
(42_receive_fsm R221, R222, 40_frame_codec R152; decisions D20, D23, D39). -/
def Obligations.RecvRetryAndDone : Prop :=
  (∀ s : State, s.rxf ≠ [] →
    exec .rRetry s = .next { s with
      r1 := s.r1 + 1, rxf := s.rxf.dropLast ++ [[]], rxShape := .none,
      rEvent := if s.r1.toNat + 1 < 5 then .pass else .fail,
      rState := if s.r1.toNat + 1 < 5 then .repoll else .error, rPhase := .start }) ∧
  (∀ s : State,
    exec .rDone s =
      if s.rxShape = .divided ∧ s.rxFrameNo.toNat + 1 ≠ s.rxFrameCnt.toNat then
        .next { s with rxf := s.rxf ++ [[]], rxShape := .none, rEvent := .wait, rState := .enquiry, rPhase := .start }
      else .next { s with rxOk := true, rEvent := .pass, rState := .end_, rPhase := .start })

/-- Receive `end` releases the lock if the engine owns it and ends the call; the host can collect its result. On failure it
returns no payload. On success, in every state that meets the receive invariant, the collected frames are in the domain of
`parseFrames`: the call returns their payload, which holds at least the three header bytes (42_receive_fsm R224,
43_orchestrator R264, R265, R269; decision D34). The registers of the discarded context are free values of the model
(log 12, 25), results to be collected are log 19. -/
def Obligations.RecvEndReturnsThePayload : Prop :=
  ∀ s : State, ∃ (rs : RecvState) (ev : Event) (fs : List Frame) (sh : Shape) (len : BitVec 24) (no cnt : BitVec 16),
    (s.rxOk = false →
      exec .rEnd s = .next { s with
        rRun := false, lockOwner := if s.lockOwner = some .recv then none else s.lockOwner,
        returns := s.returns ++ [.receiveResult false none], rxPayload := none, rPhase := .start,
        rState := rs, rEvent := ev, rxf := fs, rxShape := sh, rxLen := len, rxFrameNo := no, rxFrameCnt := cnt,
        freeCount := s.freeCount + 1 }) ∧
    (s.rxOk = true → RxInv s → s.rRun = true → s.rState = .end_ →
      ∃ p : Bytes, parseFrames s.rxf = some p ∧ 3 ≤ p.length ∧
      exec .rEnd s = .next { s with
        rRun := false, lockOwner := if s.lockOwner = some .recv then none else s.lockOwner,
        returns := s.returns ++ [.receiveResult true (some p)], rxPayload := some p, rPhase := .start,
        rState := rs, rEvent := ev, rxf := fs, rxShape := sh, rxLen := len, rxFrameNo := no, rxFrameCnt := cnt,
        freeCount := s.freeCount + 1 })

/-! ### The Frame Codec -/

/-- `buildRegular`: STX, LEN = size + 2, the payload unchanged, ETX and the checksum of LEN to ETX, for every size up to
251; nothing but the result is written (40_frame_codec R132). -/
def Obligations.BuildRegularFrame : Prop :=
  ∀ (p : Bytes) (s : State), p.length ≤ 251 →
    exec (.buildRegular p) s = .next { s with
      fcOut := .frames [[0x02] ++ ([BitVec.ofNat 8 (p.length + 2)] ++ p ++ [0x03]) ++
        [Config.checksum ([BitVec.ofNat 8 (p.length + 2)] ++ p ++ [0x03])]] }

/-- `buildExtended`: STX, the marker, the header, EXTLEN = d + 5 most significant byte first, the data, ETX and the
checksum of the marker to ETX, for sizes 252 to 1030 (40_frame_codec R134). -/
def Obligations.BuildExtendedFrame : Prop :=
  ∀ (cmd sub cb : Byte) (data : Bytes) (s : State), 249 ≤ data.length → data.length ≤ 1027 →
    exec (.buildExtended ([cmd, sub, cb] ++ data)) s = .next { s with
      fcOut := .frames [[0x02] ++ ([0xFE, cmd, sub, cb, 0, BitVec.ofNat 8 ((data.length + 5) / 256),
          BitVec.ofNat 8 (data.length + 5)] ++ data ++ [0x03]) ++
        [Config.checksum ([0xFE, cmd, sub, cb, 0, BitVec.ofNat 8 ((data.length + 5) / 256),
          BitVec.ofNat 8 (data.length + 5)] ++ data ++ [0x03])]] }

/-- `buildDivided`: `N = ceil(D / 1024)` frames; frame `i` has the marker, the header with 0x02 or, in the last frame,
0x03 OR-ed into the codebit, EXTLEN = c + 12, FRAMENO `i`, FRAMECOUNT `N`, bytes `1024 i` to
`min (1024 (i + 1)) D` of the data, ETX and the checksum of its own body (40_frame_codec R135, R136). -/
def Obligations.BuildDividedFrames : Prop :=
  ∀ (cmd sub cb : Byte) (data : Bytes) (s : State), 1028 ≤ data.length → data.length ≤ 65535 * 1024 →
    ∃ fs : List Frame,
      exec (.buildDivided ([cmd, sub, cb] ++ data)) s = .next { s with fcOut := .frames fs } ∧
      1024 * (fs.length - 1) < data.length ∧ data.length ≤ 1024 * fs.length ∧
      ∀ i : Nat, i < fs.length → ∀ c body : Bytes,
        c = (data.take (1024 * (i + 1))).drop (1024 * i) →
        body = [0xFE, cmd, sub, cb ||| (if i + 1 = fs.length then 0x03 else 0x02)] ++ be24 (c.length + 12) ++
          be16 i ++ be16 fs.length ++ c ++ [0x03] →
        fs[i]? = some ([0x02] ++ body ++ [Config.checksum body])

/-- `buildFrames` chooses the shape by size alone and always returns at least one frame, at least two for the divided
shape and no more than FRAMECOUNT can number; asked by itself it runs for every payload up to MAX_PAYLOAD, and
`buildDivided` for every payload that FRAMECOUNT can number (40_frame_codec R130, R131, R133; the bound on the size is
decision D28, MAX_PAYLOAD is open, log 9). An operation of one shape asked for a payload of another size runs and its
result is a free value, the model's choice (log 16). -/
def Obligations.BuildFramesChoosesBySize : Prop :=
  (∀ p : Bytes, p.length ≤ 3 + 65535 * 1024 →
    ∃ fs : List Frame, buildFrames p = some fs ∧
      (p.length ≤ 251 → fs = buildRegular p ∧ fs.length = 1) ∧
      (251 < p.length → p.length ≤ 1030 → fs = buildExtended p ∧ fs.length = 1) ∧
      (1030 < p.length → buildDivided p = some fs ∧ 2 ≤ fs.length ∧ fs.length ≤ 65535)) ∧
  (∀ (p : Bytes) (s : State), p.length ≤ Config.maxPayload →
    ∃ fs : List Frame, buildFrames p = some fs ∧ exec (.buildFrames p) s = .next { s with fcOut := .frames fs }) ∧
  (∀ (p : Bytes) (s : State), 251 < p.length →
    exec (.buildRegular p) s = .next { s with fcOut := .frames (Config.freeRegular p) }) ∧
  (∀ (p : Bytes) (s : State), p.length ≤ 251 ∨ 1030 < p.length →
    exec (.buildExtended p) s = .next { s with fcOut := .frames (Config.freeExtended p) }) ∧
  (∀ (p : Bytes) (s : State), p.length ≤ 1030 →
    exec (.buildDivided p) s = .next { s with fcOut := .frames (Config.freeDivided p) })

/-- `parseRegular` gives what stands between the LEN byte and ETX; `parseExtended` the header and what stands between
EXTLEN and ETX (40_frame_codec R140, R141). That `parseRegular` answers for a frame of 4 bytes or more, whose payload may be
shorter than a header, is the model's reading of R139 beside R143 (log 17). -/
def Obligations.ParseOneFrame : Prop :=
  (∀ (h0 h1 f1 f0 : Byte) (p : Bytes) (s : State),
    exec (.parseRegular ([h0, h1] ++ p ++ [f1, f0])) s = .next { s with fcOut := .payload p }) ∧
  (∀ (h0 h1 cmd sub cb e2 e1 e0 f1 f0 : Byte) (data : Bytes) (s : State),
    exec (.parseExtended ([h0, h1, cmd, sub, cb, e2, e1, e0] ++ data ++ [f1, f0])) s =
      .next { s with fcOut := .payload ([cmd, sub, cb] ++ data) })

/-- `parseDivided`: frame 0 gives its header as it stands and its chunk, a later divided frame its chunk, a later frame of
the regular shape its bytes between its header and ETX, in list order (40_frame_codec R142; decisions D6, D47). -/
def Obligations.ParseDividedFrames : Prop :=
  ∀ (f0 : Frame) (rest : List Frame) (s : State), 14 ≤ f0.length →
    (∀ f ∈ rest, if f[1]? = some 0xFE then 14 ≤ f.length else 7 ≤ f.length) →
    exec (.parseDivided (f0 :: rest)) s = .next { s with
      fcOut := .payload ((f0.drop 2).take 3 ++ (f0.drop 12).take (f0.length - 14) ++
        rest.flatMap (fun f => if f[1]? = some 0xFE then (f.drop 12).take (f.length - 14)
          else (f.drop 5).take (f.length - 7))) }

/-- `parseFrames` takes the shape from frame 0 by the receiver's own test and hands the list to the operation of that
shape; inside the domain it answers a payload (40_frame_codec R139; decision D6; the domain is log 17). -/
def Obligations.ParseFramesChoosesByFirstFrame : Prop :=
  ∀ (f0 : Frame) (rest : List Frame) (s : State), framesFit (f0 :: rest) = true →
    ∃ p : Bytes, exec (.parseFrames (f0 :: rest)) s = .next { s with fcOut := .payload p } ∧
      exec (.parseFrames (f0 :: rest)) s =
        if f0[1]? ≠ some 0xFE then exec (.parseRegular f0) s
        else if rest ≠ [] ∨ 1032 < unbe ((f0.drop 5).take 3) then exec (.parseDivided (f0 :: rest)) s
        else exec (.parseExtended f0) s

/-- Round trip: up to 1030 bytes `parseFrames` of the built frames is the payload; above, it is the payload with bit 1 of
its codebit set (40_frame_codec R143, in the form the spec asks for; decision D6). -/
def Obligations.CodecRoundTrip : Prop :=
  (∀ p : Bytes, p.length ≤ 1030 → ∃ fs, buildFrames p = some fs ∧ parseFrames fs = some p) ∧
  (∀ (cmd sub cb : Byte) (data : Bytes), 1027 < data.length → data.length ≤ 65535 * 1024 →
    ∃ fs, buildFrames ([cmd, sub, cb] ++ data) = some fs ∧
      parseFrames fs = some ([cmd, sub, cb ||| 0x02] ++ data))

/-- The last byte of every built frame is the checksum of its bytes 1 to L - 2, which start with the LEN byte or the
marker and end with ETX (30_encoding R103). -/
def Obligations.BuiltFrameEndsInItsChecksum : Prop :=
  ∀ (p : Bytes) (fs : List Frame) (f : Frame), buildFrames p = some fs → f ∈ fs →
    f[f.length - 1]? = some (Config.checksum ((f.take (f.length - 1)).drop 1)) ∧
    f[f.length - 2]? = some 0x03 ∧
    f[1]? = some (if p.length ≤ 251 then BitVec.ofNat 8 (p.length + 2) else 0xFE)

/-- The lengths of built frames: regular 7 to 255 bytes, extended 259 to 1037, divided 15 to 1038, for a payload with a
complete header (30_encoding R104). -/
def Obligations.BuiltFrameLengths : Prop :=
  ∀ (p : Bytes) (fs : List Frame) (f : Frame), 3 ≤ p.length → buildFrames p = some fs → f ∈ fs →
    (p.length ≤ 251 → 7 ≤ f.length ∧ f.length ≤ 255) ∧
    (251 < p.length → p.length ≤ 1030 → 259 ≤ f.length ∧ f.length ≤ 1037) ∧
    (1030 < p.length → 15 ≤ f.length ∧ f.length ≤ 1038)

/-- What the codec builds, the decoder reads: a regular frame, an undivided extended frame, or divided frames that are
more or last as bits 1..0 of their codebit say, which for a payload with flags 00 is last exactly in frame `N - 1`; the
first frame of a division is told apart without any history (30_encoding R98, R100, R102, R105, R112). -/
def Obligations.BuiltFramesDecode : Prop :=
  ∀ (cmd sub cb : Byte) (data : Bytes) (fs : List Frame), buildFrames ([cmd, sub, cb] ++ data) = some fs →
    ∀ (k : Nat) (f : Frame), fs[k]? = some f → ∃ cs : Byte,
      (data.length ≤ 248 → decode (.wire (.frame false) f) = .ok (.frameReg cmd sub cb data cs)) ∧
      (248 < data.length → data.length ≤ 1027 →
        decode (.wire (.frame false) f) = .ok (.frameExt cmd sub cb data cs)) ∧
      (1027 < data.length →
        (k + 1 = fs.length →
          decode (.wire (.frame (decide (0 < k))) f) = .ok (.frameDivLast cmd sub (cb ||| 0x03) (BitVec.ofNat 16 k)
            (BitVec.ofNat 16 fs.length) ((data.drop (1024 * k)).take 1024) cs)) ∧
        (k + 1 ≠ fs.length → cb.toNat % 2 = 0 →
          decode (.wire (.frame (decide (0 < k))) f) = .ok (.frameDivMore cmd sub (cb ||| 0x02) (BitVec.ofNat 16 k)
            (BitVec.ofNat 16 fs.length) ((data.drop (1024 * k)).take 1024) cs)) ∧
        (k + 1 ≠ fs.length → cb.toNat % 2 = 1 →
          decode (.wire (.frame (decide (0 < k))) f) = .ok (.frameDivLast cmd sub (cb ||| 0x02) (BitVec.ofNat 16 k)
            (BitVec.ofNat 16 fs.length) ((data.drop (1024 * k)).take 1024) cs)))

/-! ### The host port -/

/-- `construct` opens the device, does not look at the result, and gives the transport's registers their reset values;
`destruct`, with no call in progress, closes the device and ends the transport (43_orchestrator R261, R266,
70_reset_and_hazards R350, R355; decision D25). That `construct` of a transport that exists and is idle makes a fresh one
and drops its held requests is the model's choice (log 15); the registers the spec leaves unspecified take the values of
log 11; the answer on the host port is log 19; that a close keeps the input stream is log 28. -/
def Obligations.ConstructAndDestruct : Prop :=
  (∀ (s : State) (a : DevAnswer) (rest : List DevAnswer), s.sRun = false → s.rRun = false → s.answers = a :: rest →
    exec .construct s = .next { State.reset with
      deviceOpen := a.opened, devIn := a.stream, devOut := s.devOut, returns := s.returns,
      hostOut := s.hostOut ++ [.constructed], fcOut := s.fcOut, turns := s.turns, answers := rest,
      freeCount := s.freeCount }) ∧
  (∀ s : State, s.constructed = true → s.sRun = false → s.rRun = false →
    exec .destruct s = .next { s with
      deviceOpen := false, constructed := false, hostOut := s.hostOut ++ [.destructed] })

/-- `send` of 3 to MAX_PAYLOAD bytes builds the frames, sets the cursor to 0 and `tx_ok` to false and starts the send
engine in `idle`; `receive` gives the receive engine one empty buffer, no shape, `rx_ok` false and no payload and starts
it in `idle`; a request of a kind that is in progress is held (43_orchestrator R262, R264, R268, 10_state R47; decisions
D25, D26). A held request stays held, with its payload, until a turn takes it and its call starts, or until the transport is
constructed anew; in an endless run whose schedule turns to the oldest request when the engine is free, if it is free again
and again, every held request is taken at last (93_implementation_defined U13). Registers without a value at call entry are
free values of the model (log 12), held requests and their numbers log 14, those of an older transport log 15. -/
def Obligations.SendAndReceiveStartOrAreHeld : Prop :=
  (∀ (p : Bytes) (s : State), s.constructed = true → 3 ≤ p.length → p.length ≤ Config.maxPayload →
    ∃ (fs : List Frame) (ev : Event), buildFrames p = some fs ∧
      exec (.send p) s =
        if s.sRun = true then .next { s with heldSends := s.heldSends ++ [p] }
        else .next { s with
          txPayload := p, txf := fs, txCursor := 0, txOk := false, sState := .idle, sRun := true, sPhase := .start,
          sEvent := ev, freeCount := s.freeCount + 1 }) ∧
  (∀ s : State, s.constructed = true →
    ∃ (ev : Event) (len : BitVec 24) (no cnt : BitVec 16),
      exec .receive s =
        if s.rRun = true then .next { s with heldReceives := s.heldReceives + 1 }
        else .next { s with
          rxf := [[]], rxShape := .none, rxOk := false, rxPayload := none, rState := .idle, rRun := true,
          rPhase := .start, rEvent := ev, rxLen := len, rxFrameNo := no, rxFrameCnt := cnt,
          freeCount := s.freeCount + 1 }) ∧
  (∀ (s t : State) (u : Turn) (rest : List Turn) (k : Nat), s.turns = u :: rest → step s = .next t →
    (∀ p : Bytes, s.heldSends[k]? = some p →
      (∀ k' : Nat, heldNext .send u s t k = some k' → t.heldSends[k']? = some p) ∧
      (heldNext .send u s t k = none →
        u = .host .construct ∨ (s.sRun = false ∧ t.sRun = true ∧ t.txPayload = p))) ∧
    (k < s.heldReceives → heldNext .recv u s t k = none →
      u = .host .construct ∨ (s.rRun = false ∧ t.rRun = true))) ∧
  (∀ (sched : Nat → Turn) (env : Nat → List DevAnswer) (run : Nat → State),
    RunsAs sched env run → OldestFirst sched run → HeldFair sched run)

/-- Reading the counters answers `r1` and `r2`, at any time, and has no side effect. While the send engine is in the middle
of `retry` the answer for `r2` is the value before this action's increment, and no step of an engine that leaves its action
unfinished changes what the host reads (43_orchestrator R267). The phases of an action are the model's form of R269
(log 13). -/
def Obligations.ReadCountersHasNoSideEffect : Prop :=
  (∀ s : State, s.constructed = true →
    exec .readCounters s = .next { s with
      hostOut := s.hostOut ++ [.counters s.r1
        (if s.sRun = true ∧ s.sState = .retry ∧ (s.sPhase = .sleep ∨ s.sPhase = .close ∨ s.sPhase = .reopen)
          then s.r2 - 1 else s.r2)] }) ∧
  (∀ (s t : State) (rest : List Turn), s.turns = .engine .send :: rest → s.sRun = true → step s = .next t →
    t.sPhase ≠ .start → visibleR2 t = visibleR2 s)

/-- What is refused: a `send` of fewer than 3 or more than MAX_PAYLOAD bytes, `destruct` and `construct` during a call,
any other operation after `destruct`, `buildFrames` above MAX_PAYLOAD and `buildDivided` above what FRAMECOUNT can number,
a parse operation on a list that is empty, holds a frame too short for its shape or mixes a regular first frame with
another shape (43_orchestrator R263, R266, 70_reset_and_hazards R350, 40_frame_codec R133, R139; 93_implementation_defined
U9, U11, U14). That `construct` during a call is refused, which of the two limits an operation of the codec has, and how
short is too short, are the model's choice (log 15, 16, 17). -/
def Obligations.RefusedRequests : Prop :=
  (∀ (p : Bytes) (s : State), s.constructed = true → p.length < 3 ∨ Config.maxPayload < p.length →
    exec (.send p) s = .refused .payloadSize) ∧
  (∀ s : State, s.constructed = true → s.sRun = true ∨ s.rRun = true →
    exec .destruct s = .refused .destructDuringCall) ∧
  (∀ s : State, s.sRun = true ∨ s.rRun = true → exec .construct s = .refused .constructDuringCall) ∧
  (∀ (p : Bytes) (s : State), s.constructed = false →
    exec (.send p) s = .refused .transportDestructed ∧ exec .receive s = .refused .transportDestructed ∧
    exec .destruct s = .refused .transportDestructed ∧ exec .readCounters s = .refused .transportDestructed) ∧
  (∀ (p : Bytes) (s : State), 3 + 65535 * 1024 < p.length → exec (.buildDivided p) s = .refused .codecDomain) ∧
  (∀ (p : Bytes) (s : State), Config.maxPayload < p.length →
    exec (.buildFrames p) s = .refused .codecDomain) ∧
  (∀ (fs : List Frame) (s : State), framesFit fs = false → exec (.parseFrames fs) s = .refused .parseDomain) ∧
  (∀ (fs : List Frame) (s : State), dividedListFits fs = false → exec (.parseDivided fs) s = .refused .parseDomain) ∧
  (∀ (f : Frame) (s : State), f.length < 4 → exec (.parseRegular f) s = .refused .parseDomain) ∧
  (∀ (f : Frame) (s : State), f.length < 10 → exec (.parseExtended f) s = .refused .parseDomain) ∧
  framesFit [] = false ∧ dividedListFits [] = false ∧
  (∀ (f : Frame) (rest : List Frame), f[1]? = some 0xFE → f.length < 10 → framesFit (f :: rest) = false) ∧
  (∀ (f g : Frame) (rest : List Frame), f[1]? ≠ some 0xFE → g ∈ rest → g[1]? = some 0xFE ∨ g.length < 4 →
    framesFit (f :: rest) = false)

/-! ### Invariants that every step keeps -/

/-- Every step keeps the ownership of the lock as the two state machines give it (41_send_fsm R177, 42_receive_fsm
R226). -/
def Obligations.EveryStepKeepsLockOwnership : Prop :=
  ∀ s t : State, LockInv s → step s = .next t → LockInv t

/-- Every step keeps the retry counters in their ranges, below the ceiling while a call is still trying (60_exceptions
R315, 41_send_fsm R178, 40_frame_codec R150). -/
def Obligations.EveryStepKeepsCounterRanges : Prop :=
  ∀ s t : State, CounterInv s → step s = .next t → CounterInv t

/-- Every step keeps the Transmit Context well formed: while a `send` runs the cursor names a frame, there are at most
65535 frames, and each is a complete frame of 7 to 1038 bytes (10_state R26, R27, R45, 30_encoding R104). -/
def Obligations.EveryStepKeepsTransmitContext : Prop :=
  ∀ s t : State, TxInv s → step s = .next t → TxInv t

/-- Every step keeps the Receive Context well formed: while a `receive` runs there is a buffer, every completed buffer is
a divided frame, and the frame in progress holds what its state says (10_state R30, R45, 42_receive_fsm R210 to R222). -/
def Obligations.EveryStepKeepsReceiveContext : Prop :=
  ∀ s t : State, RxInv s → step s = .next t → RxInv t

/-- In a state that meets the two context invariants no step faults, and no step of an engine is refused (10_state R45,
43_orchestrator R264; the faults and the refusal are the model's own, log 18). -/
def Obligations.NoFaultInsideTheInvariants : Prop :=
  ∀ s : State, TxInv s → RxInv s →
    (∀ f : Fault, step s ≠ .fault f) ∧
    (∀ (e : Engine) (rest : List Turn) (r : Refusal), s.turns = .engine e :: rest → step s ≠ .refused r)

/-! ### The state machines -/

/-- The send transition table, all sixty cells, in the order of the events `Pass`, `Busy`, `Wait`, `Deny`, `Fail`
(41_send_fsm R162). -/
def Obligations.SendTransitionTable : Prop :=
  [Event.pass, .busy, .wait, .deny, .fail].map (tSend .idle) =
    [some .enquiry, some .retry, some .retry, some .retry, some .retry] ∧
  [Event.pass, .busy, .wait, .deny, .fail].map (tSend .enquiry) =
    [some .reenquiry, some .retry, some .retry, some .retry, some .retry] ∧
  [Event.pass, .busy, .wait, .deny, .fail].map (tSend .reenquiry) =
    [some .ack, some .retry, some .nak, some .retry, some .retry] ∧
  [Event.pass, .busy, .wait, .deny, .fail].map (tSend .ack) =
    [some .frame, some .reenquiry, some .nak, some .retry, some .retry] ∧
  [Event.pass, .busy, .wait, .deny, .fail].map (tSend .frame) =
    [some .ack2, some .retry, some .retry, some .retry, some .retry] ∧
  [Event.pass, .busy, .wait, .deny, .fail].map (tSend .ack2) =
    [some .done, some .retry, some .retry, some .retry, some .retry] ∧
  [Event.pass, .busy, .wait, .deny, .fail].map (tSend .retry) =
    [some .enquiry, some .retry, some .retry, some .retry, some .error] ∧
  [Event.pass, .busy, .wait, .deny, .fail].map (tSend .nak) =
    [some .wait, some .retry, some .retry, some .retry, some .retry] ∧
  [Event.pass, .busy, .wait, .deny, .fail].map (tSend .wait) =
    [some .enquiry, some .retry, some .retry, some .retry, some .retry] ∧
  [Event.pass, .busy, .wait, .deny, .fail].map (tSend .done) =
    [some .end_, some .end_, some .reenquiry, some .end_, some .end_] ∧
  [Event.pass, .busy, .wait, .deny, .fail].map (tSend .error) =
    [some .end_, some .end_, some .end_, some .end_, some .end_] ∧
  [Event.pass, .busy, .wait, .deny, .fail].map (tSend .end_) = [none, none, none, none, none]

/-- The receive transition table, all ninety-five cells, in the order of the events `Pass`, `Busy`, `Wait`, `Deny`, `Fail`
(42_receive_fsm R202). The source prints no receive table: which cells it states is R203, and the others are the spec's own
choice, its decision D15 (log 23). -/
def Obligations.RecvTransitionTable : Prop :=
  [Event.pass, .busy, .wait, .deny, .fail].map (tRecv .idle) =
    [some .poll, some .error, some .error, some .error, some .error] ∧
  [Event.pass, .busy, .wait, .deny, .fail].map (tRecv .poll) =
    [some .enquiry, some .error, some .error, some .error, some .error] ∧
  [Event.pass, .busy, .wait, .deny, .fail].map (tRecv .repoll) =
    [some .poll, some .error, some .error, some .error, some .error] ∧
  [Event.pass, .busy, .wait, .deny, .fail].map (tRecv .enquiry) =
    [some .ack, some .repoll, some .error, some .retry, some .error] ∧
  [Event.pass, .busy, .wait, .deny, .fail].map (tRecv .ack) =
    [some .stx, some .error, some .error, some .nak, some .error] ∧
  [Event.pass, .busy, .wait, .deny, .fail].map (tRecv .stx) =
    [some .len, some .error, some .error, some .nak, some .error] ∧
  [Event.pass, .busy, .wait, .deny, .fail].map (tRecv .len) =
    [some .datacmd, some .error, some .error, some .nak, some .error] ∧
  [Event.pass, .busy, .wait, .deny, .fail].map (tRecv .datacmd) =
    [some .dataextlen, some .error, some .error, some .nak, some .error] ∧
  [Event.pass, .busy, .wait, .deny, .fail].map (tRecv .dataextlen) =
    [some .dataframenumber, some .error, some .error, some .nak, some .error] ∧
  [Event.pass, .busy, .wait, .deny, .fail].map (tRecv .dataframenumber) =
    [some .data, some .error, some .error, some .nak, some .error] ∧
  [Event.pass, .busy, .wait, .deny, .fail].map (tRecv .data) =
    [some .etx, some .error, some .error, some .nak, some .error] ∧
  [Event.pass, .busy, .wait, .deny, .fail].map (tRecv .etx) =
    [some .cs, some .error, some .error, some .nak, some .error] ∧
  [Event.pass, .busy, .wait, .deny, .fail].map (tRecv .cs) =
    [some .ack2, some .nak, some .nak, some .nak, some .nak] ∧
  [Event.pass, .busy, .wait, .deny, .fail].map (tRecv .ack2) =
    [some .done, some .error, some .error, some .error, some .error] ∧
  [Event.pass, .busy, .wait, .deny, .fail].map (tRecv .nak) =
    [some .retry, some .error, some .error, some .error, some .error] ∧
  [Event.pass, .busy, .wait, .deny, .fail].map (tRecv .retry) =
    [some .repoll, some .error, some .error, some .error, some .error] ∧
  [Event.pass, .busy, .wait, .deny, .fail].map (tRecv .done) =
    [some .end_, some .end_, some .enquiry, some .end_, some .end_] ∧
  [Event.pass, .busy, .wait, .deny, .fail].map (tRecv .error) =
    [some .end_, some .end_, some .end_, some .end_, some .end_] ∧
  [Event.pass, .busy, .wait, .deny, .fail].map (tRecv .end_) =
    [none, none, none, none, none]

/-- A step of an engine waits, or is one of the earlier primitives of its action (a read of a drain, the release, sleep or
close of `retry` and `wait`, the poll of `poll`) and leaves the state and event registers, or ends the call, or emits an
event its state can emit and moves to the table's entry for it (41_send_fsm R161, R176, 42_receive_fsm R201, R225). That an
action takes several turns, and that a turn can be spent waiting, is the model's form of 43_orchestrator R269 (log 2,
13). -/
def Obligations.EnginesFollowTheirTables : Prop :=
  (∀ (s t : State) (rest : List Turn), s.turns = .engine .send :: rest → s.sRun = true → step s = .next t →
    t = { s with turns := rest } ∨
    ((s.sState = .reenquiry ∨ s.sState = .retry ∨ s.sState = .wait) ∧ t.sState = s.sState ∧ t.sEvent = s.sEvent ∧
      t.sRun = true) ∨
    (s.sState = .end_ ∧ t.sRun = false) ∨
    (t.sEvent ∈ sendCanEmit s.sState ∧ tSend s.sState t.sEvent = some t.sState ∧ t.sRun = true ∧
      t.sPhase = .start)) ∧
  (∀ (s t : State) (rest : List Turn), s.turns = .engine .recv :: rest → s.rRun = true → step s = .next t →
    t = { s with turns := rest } ∨
    ((s.rState = .poll ∨ s.rState = .enquiry) ∧ t.rState = s.rState ∧ t.rEvent = s.rEvent ∧ t.rRun = true) ∨
    (s.rState = .end_ ∧ t.rRun = false) ∨
    (t.rEvent ∈ recvCanEmit s.rState ∧ tRecv s.rState t.rEvent = some t.rState ∧ t.rRun = true ∧
      t.rPhase = .start))

/-- A step of one engine leaves the other engine's registers, frame store and counter as they are: they share the lock and
the device and nothing else (10_state R20, 20_memory R70). -/
def Obligations.EnginesKeepApart : Prop :=
  (∀ (s t : State) (rest : List Turn), s.turns = .engine .send :: rest → step s = .next t →
    t.rState = s.rState ∧ t.rRun = s.rRun ∧ t.rEvent = s.rEvent ∧ t.rPhase = s.rPhase ∧ t.rxf = s.rxf ∧
    t.rxShape = s.rxShape ∧ t.rxLen = s.rxLen ∧ t.rxFrameNo = s.rxFrameNo ∧ t.rxFrameCnt = s.rxFrameCnt ∧
    t.rxOk = s.rxOk ∧ t.rxPayload = s.rxPayload ∧ t.r1 = s.r1 ∧
    (s.lockOwner = some .recv → t.lockOwner = some .recv)) ∧
  (∀ (s t : State) (rest : List Turn), s.turns = .engine .recv :: rest → step s = .next t →
    t.sState = s.sState ∧ t.sRun = s.sRun ∧ t.sEvent = s.sEvent ∧ t.sPhase = s.sPhase ∧ t.txf = s.txf ∧
    t.txCursor = s.txCursor ∧ t.txOk = s.txOk ∧ t.txPayload = s.txPayload ∧ t.r2 = s.r2 ∧
    t.deviceOpen = s.deviceOpen ∧ (s.lockOwner = some .send → t.lockOwner = some .send))

/-- While a `send` is in progress its frames and its payload do not change and only `done` moves the cursor, by one; a
call in progress ends only by its engine's action of `end` (10_state R26, R27, 43_orchestrator R270). -/
def Obligations.ACallKeepsItsFramesAndEndsAtEnd : Prop :=
  ∀ s t : State, step s = .next t →
    (s.sRun = true → t.sRun = true → t.txf = s.txf ∧ t.txPayload = s.txPayload ∧
      (t.txCursor = s.txCursor ∨
        (s.sState = .done ∧ s.txCursor.toNat + 1 < s.txf.length ∧ t.txCursor = s.txCursor + 1))) ∧
    (s.sRun = true → t.sRun = false → s.sState = .end_ ∧ ∃ rest, s.turns = .engine .send :: rest) ∧
    (s.rRun = true → t.rRun = false → s.rState = .end_ ∧ ∃ rest, s.turns = .engine .recv :: rest)

/-- An engine calls the device, or reads or writes its streams, only while it owns the lock, but for the poll of `poll` and
the close and open of `retry`, which run without it (20_memory R74, 41_send_fsm R177, 42_receive_fsm R226,
70_reset_and_hazards R367). A call that answers is seen by the answer it takes (log 2). -/
def Obligations.DeviceOnlyUnderTheLock : Prop :=
  (∀ (s t : State) (rest : List Turn), LockInv s → s.turns = .engine .send :: rest → step s = .next t →
    t.answers ≠ s.answers ∨ t.devIn ≠ s.devIn ∨ t.devOut ≠ s.devOut ∨ t.deviceOpen ≠ s.deviceOpen →
    s.lockOwner = some .send ∨
      (s.sState = .retry ∧ (s.sPhase = .close ∨ s.sPhase = .reopen) ∧ t.devOut = s.devOut)) ∧
  (∀ (s t : State) (rest : List Turn), LockInv s → s.turns = .engine .recv :: rest → step s = .next t →
    t.answers ≠ s.answers ∨ t.devIn ≠ s.devIn ∨ t.devOut ≠ s.devOut ∨ t.deviceOpen ≠ s.deviceOpen →
    s.lockOwner = some .recv ∨ (s.rState = .poll ∧ t.devIn = s.devIn ∧ t.devOut = s.devOut))

/-- The retry counters: `idle` sets its engine's counter to 0, `retry` adds 1, once, and no other step changes a counter
but construction (60_exceptions R315, 10_state R38, R39). -/
def Obligations.RetryCountersMoveOnlyInIdleAndRetry : Prop :=
  (∀ (s t : State) (rest : List Turn), s.turns = .engine .send :: rest → s.sRun = true → step s = .next t →
    t.r1 = s.r1 ∧ t.r2 = (if s.sState = .idle then 0
      else if s.sState = .retry ∧ s.sPhase.released = false then s.r2 + 1 else s.r2)) ∧
  (∀ (s t : State) (rest : List Turn), s.turns = .engine .recv :: rest → s.rRun = true → step s = .next t →
    t.r2 = s.r2 ∧ t.r1 = (if s.rState = .idle then 0 else if s.rState = .retry then s.r1 + 1 else s.r1)) ∧
  (∀ (s t : State) (u : Turn) (rest : List Turn), s.turns = u :: rest → (∀ e, u ≠ .engine e) →
    u ≠ .host .construct → step s = .next t → t.r1 = s.r1 ∧ t.r2 = s.r2)

/-! ### Whole calls -/

/-- A `send` that meets no failure: with a peer that acknowledges every enquiry and every frame, the call writes, for each
frame in order, ENQ and the frame, and nothing else, returns `true` to the host that collects it, leaves `r2` at 0 and the
lock free (41_send_fsm R181, 43_orchestrator R262, R269). The turns and the answers are the model's form of the run
(log 1, 2, 19). -/
def Obligations.CleanSendSucceeds : Prop :=
  ∀ (s : State) (p : Bytes) (fs : List Frame) (turns : List Turn) (answers : List DevAnswer),
    s.constructed = true → s.sRun = false → s.lockOwner = none → s.devIn = [] → s.returns = [] →
    3 ≤ p.length → p.length ≤ Config.maxPayload → buildFrames p = some fs →
    s.turns = .host (.send p) :: .engine .send :: .engine .send ::
      (fs.flatMap (fun _ => cleanFrameTurns) ++ .engine .send :: .collect 0 :: turns) →
    s.answers = fs.flatMap cleanFrameAnswers ++ answers →
    ∃ t : State, runFor (5 + 8 * fs.length) s = some t ∧ t.turns = turns ∧ t.answers = answers ∧
      t.devOut = s.devOut ++ fs.flatMap (fun f => 0x05 :: f) ∧ t.devIn = [] ∧ t.r2 = 0 ∧ t.lockOwner = none ∧
      t.sRun = false ∧ t.txOk = true ∧ t.returns = [] ∧ t.hostOut = s.hostOut ++ [.sendResult true]

/-- A `send` to a peer that never answers: after exactly 240 attempts, each one ENQ, with the device closed and opened
after the attempts 6, 12, ..., 234, the call ends with `false`, `r2` = 240 and the lock free; no frame byte is written, and
the stale bytes that were there at the start, and those that any open brought, are drained and change nothing
(41_send_fsm R170, R178, 20_memory R72, R76, 70_reset_and_hazards R377; decision D7). The turns, one more for each stale
byte, and the answers are the model's form of the run (log 1, 2, 3, 13). -/
def Obligations.SilentDeviceFailsAfter240Attempts : Prop :=
  ∀ (s : State) (opens : Nat → DevAnswer) (turns : List Turn) (answers : List DevAnswer),
    s.sRun = true → s.sState = .idle → s.sPhase = .start → s.lockOwner = none →
    s.turns = List.replicate (1520 + staleTotal s.devIn opens) (.engine .send) ++ turns →
    s.answers =
      (List.range 240).flatMap (fun k => silentAttempt (staleBytes s.devIn opens k) (k + 1) (opens k)) ++ answers →
    ∃ t : State, runFor (1520 + staleTotal s.devIn opens) s = some t ∧ t.turns = turns ∧ t.answers = answers ∧
      t.devIn = [] ∧ t.devOut = s.devOut ++ List.replicate 240 0x05 ∧ t.r2 = 240 ∧ t.lockOwner = none ∧ t.sRun = false ∧
      t.txOk = false ∧ t.returns = s.returns ++ [.sendResult false]

/-- A `receive` of one regular frame that meets no failure: the enquiry is acknowledged, the frame is read field by field
and acknowledged, and the call returns the payload with its three header bytes to the host that collects it, `r1` at 0 and
the lock free (42_receive_fsm R227, 43_orchestrator R264, R269). The turns and the answers are the model's form of the run
(log 1, 2, 13, 19). -/
def Obligations.CleanReceiveOfARegularFrame : Prop :=
  ∀ (s : State) (cmd sub cb : Byte) (data : Bytes) (turns : List Turn) (answers : List DevAnswer),
    s.constructed = true → s.rRun = false → s.lockOwner = none → s.devIn = [] → s.returns = [] → data.length ≤ 248 →
    s.turns = .host .receive :: .engine .recv :: .unit .answer [0x05] ::
      (List.replicate 5 (.engine .recv) ++
      .unit (.frame false) ([0x02] ++ regularBody cmd sub cb data ++
        [Config.checksum (regularBody cmd sub cb data)]) ::
      (List.replicate 11 (.engine .recv) ++ .collect 0 :: turns)) →
    s.answers = [answer .success 0, answer .success 0, answer .timeout 0, answer .success 1] ++
      List.replicate (if data = [] then 5 else 6) (answer .success 0) ++ answer .success 1 :: answers →
    ∃ t : State, runFor 21 s = some t ∧ t.turns = turns ∧ t.answers = answers ∧
      t.devOut = s.devOut ++ [0x06, 0x06] ∧ t.devIn = [] ∧ t.r1 = 0 ∧ t.lockOwner = none ∧ t.rRun = false ∧
      t.rxPayload = some ([cmd, sub, cb] ++ data) ∧ t.returns = [] ∧
      t.hostOut = s.hostOut ++ [.receiveResult true (some ([cmd, sub, cb] ++ data))]

/-! ### The boundary above the block -/

/-- The addressing layer: the outgoing codebit is (local << 5) + (peer << 2), 0x28 towards B and 0x44 towards A; the check
is on bits 7..2; what one party writes the other reads, what comes back to its own sender is nothing received, and division
flags 01 are refused (44_addressing_boundary R282 to R284, 93_implementation_defined U3; decision D43). A layer wraps its
transports with a fixed peer: `write` is a `send` and `read` a `receive` on them, their returns are the collected results,
and no step changes the peer; of a dual-channel pair a step of one instance leaves the other as it is, the transmit
instance takes no `receive` and the receive instance no `send` (R280, R286; decision D41). The layer is outside the block
and these forms are the model's own (log 22). -/
def Obligations.AddressingLayer : Prop :=
  codebitOut .b = 0x28 ∧ codebitOut .a = 0x44 ∧
  (∀ (peer : Peer) (cmd sub : Byte) (data : Bytes),
    readPayload (localRole peer) true (some (writePayload peer cmd sub data)) = .ok (.received cmd sub data) ∧
    readPayload peer true (some (writePayload peer cmd sub data)) = .ok .nothingReceived ∧
    readPayload peer false none = .ok .nothingReceived) ∧
  (∀ (peer : Peer) (cmd sub cb : Byte) (data : Bytes), cb.toNat % 4 = 1 →
    readPayload peer true (some ([cmd, sub, cb] ++ data)) = .error .reservedFlags) ∧
  (∀ (peer : Peer) (cb : Byte), codebitOk peer cb = true ↔
    cb.toNat / 4 = (addressOf peer).toNat * 8 + (addressOf (localRole peer)).toNat) ∧
  (∀ (l : Layer) (cmd sub : Byte) (data : Bytes), l.sender.constructed = true → l.sender.sRun = false →
    data.length + 3 ≤ Config.maxPayload →
    ∃ s : State, exec (.send ([cmd, sub, codebitOut l.peer] ++ data)) l.sender = .next s ∧ s.sRun = true ∧
      s.txPayload = [cmd, sub, codebitOut l.peer] ++ data ∧ l.write cmd sub data = .next (l.withSender s)) ∧
  (∀ l : Layer, l.receiver.constructed = true → l.receiver.rRun = false →
    ∃ s : State, exec .receive l.receiver = .next s ∧ s.rRun = true ∧ l.read = .next (l.withReceiver s)) ∧
  (∀ (l : Layer) (ok : Bool) (r : List HostResponse), l.sender.returns = .sendResult ok :: r →
    l.writeReturn = some (ok, l.withSender { l.sender with
      returns := r, hostOut := l.sender.hostOut ++ [.sendResult ok] })) ∧
  (∀ (l : Layer) (ok : Bool) (p : Option Bytes) (r : List HostResponse),
    l.receiver.returns = .receiveResult ok p :: r →
    l.readReturn = some (readPayload l.peer ok p, l.withReceiver { l.receiver with
      returns := r, hostOut := l.receiver.hostOut ++ [.receiveResult ok p] })) ∧
  (∀ l e : Layer, l.stepSender = .next e ∨ l.stepReceiver = .next e → e.peer = l.peer) ∧
  (∀ (l e : Layer) (tx rx : State), l.channels = .dual tx rx →
    (l.stepSender = .next e → ∃ tx' : State, e.channels = .dual tx' rx) ∧
    (l.stepReceiver = .next e → ∃ rx' : State, e.channels = .dual tx rx') ∧
    (∀ rest : List Turn, tx.turns = .host .receive :: rest → l.stepSender = .refused .wrongChannel) ∧
    (∀ (p : Bytes) (rest : List Turn), rx.turns = .host (.send p) :: rest →
      l.stepReceiver = .refused .wrongChannel))

end
end

