-- ==== Sys2Proof/Laws/Config.lean ====
section
/-! SUPPORT. The value of each constant of the configuration, so that no later proof unfolds
`Config.params`. They are proved by `decide`, not `rfl`, so that `simp` rewrites them under `if` too. -/

namespace Sys2Proof.Config

@[simp] theorem regMax_eq : regMax = 251 := by decide
@[simp] theorem extMax_eq : extMax = 1030 := by decide
@[simp] theorem chunkMax_eq : chunkMax = 1024 := by decide
@[simp] theorem hdr_eq : hdr = 3 := by decide
@[simp] theorem lenBias_eq : lenBias = 2 := by decide
@[simp] theorem regOverhead_eq : regOverhead = 5 := by decide
@[simp] theorem regLenMin_eq : regLenMin = 5 := by decide
@[simp] theorem regLenMax_eq : regLenMax = 253 := by decide
@[simp] theorem extOverhead_eq : extOverhead = 5 := by decide
@[simp] theorem divOverhead_eq : divOverhead = 12 := by decide
@[simp] theorem divThreshold_eq : divThreshold = 1032 := by decide
@[simp] theorem DIV_MORE_eq : DIV_MORE = 0x02 := by decide
@[simp] theorem DIV_LAST_eq : DIV_LAST = 0x03 := by decide
@[simp] theorem sendRetryLimit_eq : sendRetryLimit = 240 := by decide
@[simp] theorem recvRetryLimit_eq : recvRetryLimit = 5 := by decide
@[simp] theorem reopenPeriod_eq : reopenPeriod = 6 := by decide
@[simp] theorem tField_eq : tField = some 50 := by decide
@[simp] theorem tDrain_eq : tDrain = some 0 := by decide
@[simp] theorem tPoll_eq : tPoll = none := by decide
@[simp] theorem tBackoff_eq : tBackoff = 5 := by decide
@[simp] theorem formatMax_eq : formatMax = 67107843 := by decide

/-- What is known of MAX_PAYLOAD: at least the header, at most what the format can carry (log 9). -/
theorem maxPayload_bounds : 3 ≤ maxPayload ∧ maxPayload ≤ formatMax := by
  have h := maxPayloadSlack.isLt
  have e : maxPayload = 3 + maxPayloadSlack.val := rfl
  rw [e, formatMax_eq]
  omega

end Sys2Proof.Config
end

