-- ==== Sys2Proof/Laws/State.lean ====
section
/-! SUPPORT. One lemma per field per named update of the state, each true by unfolding, so that no later proof unfolds
an update. -/

namespace Sys2Proof.Machine

variable (s : State)

/-! ### sleep -/

@[simp] theorem sleep_sState (t : Nat) : (sleep t s).sState = s.sState := rfl
@[simp] theorem sleep_sRun (t : Nat) : (sleep t s).sRun = s.sRun := rfl
@[simp] theorem sleep_sEvent (t : Nat) : (sleep t s).sEvent = s.sEvent := rfl
@[simp] theorem sleep_sPhase (t : Nat) : (sleep t s).sPhase = s.sPhase := rfl
@[simp] theorem sleep_txf (t : Nat) : (sleep t s).txf = s.txf := rfl
@[simp] theorem sleep_txCursor (t : Nat) : (sleep t s).txCursor = s.txCursor := rfl
@[simp] theorem sleep_txOk (t : Nat) : (sleep t s).txOk = s.txOk := rfl
@[simp] theorem sleep_txPayload (t : Nat) : (sleep t s).txPayload = s.txPayload := rfl
@[simp] theorem sleep_rState (t : Nat) : (sleep t s).rState = s.rState := rfl
@[simp] theorem sleep_rRun (t : Nat) : (sleep t s).rRun = s.rRun := rfl
@[simp] theorem sleep_rEvent (t : Nat) : (sleep t s).rEvent = s.rEvent := rfl
@[simp] theorem sleep_rPhase (t : Nat) : (sleep t s).rPhase = s.rPhase := rfl
@[simp] theorem sleep_rxf (t : Nat) : (sleep t s).rxf = s.rxf := rfl
@[simp] theorem sleep_rxShape (t : Nat) : (sleep t s).rxShape = s.rxShape := rfl
@[simp] theorem sleep_rxLen (t : Nat) : (sleep t s).rxLen = s.rxLen := rfl
@[simp] theorem sleep_rxFrameNo (t : Nat) : (sleep t s).rxFrameNo = s.rxFrameNo := rfl
@[simp] theorem sleep_rxFrameCnt (t : Nat) : (sleep t s).rxFrameCnt = s.rxFrameCnt := rfl
@[simp] theorem sleep_rxOk (t : Nat) : (sleep t s).rxOk = s.rxOk := rfl
@[simp] theorem sleep_rxPayload (t : Nat) : (sleep t s).rxPayload = s.rxPayload := rfl
@[simp] theorem sleep_r2 (t : Nat) : (sleep t s).r2 = s.r2 := rfl
@[simp] theorem sleep_r1 (t : Nat) : (sleep t s).r1 = s.r1 := rfl
@[simp] theorem sleep_lockOwner (t : Nat) : (sleep t s).lockOwner = s.lockOwner := rfl
@[simp] theorem sleep_constructed (t : Nat) : (sleep t s).constructed = s.constructed := rfl
@[simp] theorem sleep_heldSends (t : Nat) : (sleep t s).heldSends = s.heldSends := rfl
@[simp] theorem sleep_heldReceives (t : Nat) : (sleep t s).heldReceives = s.heldReceives := rfl
@[simp] theorem sleep_devIn (t : Nat) : (sleep t s).devIn = s.devIn := rfl
@[simp] theorem sleep_devOut (t : Nat) : (sleep t s).devOut = s.devOut := rfl
@[simp] theorem sleep_deviceOpen (t : Nat) : (sleep t s).deviceOpen = s.deviceOpen := rfl
@[simp] theorem sleep_returns (t : Nat) : (sleep t s).returns = s.returns := rfl
@[simp] theorem sleep_hostOut (t : Nat) : (sleep t s).hostOut = s.hostOut := rfl
@[simp] theorem sleep_fcOut (t : Nat) : (sleep t s).fcOut = s.fcOut := rfl
@[simp] theorem sleep_turns (t : Nat) : (sleep t s).turns = s.turns := rfl
@[simp] theorem sleep_answers (t : Nat) : (sleep t s).answers = s.answers := rfl
@[simp] theorem sleep_freeCount (t : Nat) : (sleep t s).freeCount = s.freeCount := rfl

/-! ### devClose -/

@[simp] theorem devClose_sState : (devClose s).sState = s.sState := rfl
@[simp] theorem devClose_sRun : (devClose s).sRun = s.sRun := rfl
@[simp] theorem devClose_sEvent : (devClose s).sEvent = s.sEvent := rfl
@[simp] theorem devClose_sPhase : (devClose s).sPhase = s.sPhase := rfl
@[simp] theorem devClose_txf : (devClose s).txf = s.txf := rfl
@[simp] theorem devClose_txCursor : (devClose s).txCursor = s.txCursor := rfl
@[simp] theorem devClose_txOk : (devClose s).txOk = s.txOk := rfl
@[simp] theorem devClose_txPayload : (devClose s).txPayload = s.txPayload := rfl
@[simp] theorem devClose_rState : (devClose s).rState = s.rState := rfl
@[simp] theorem devClose_rRun : (devClose s).rRun = s.rRun := rfl
@[simp] theorem devClose_rEvent : (devClose s).rEvent = s.rEvent := rfl
@[simp] theorem devClose_rPhase : (devClose s).rPhase = s.rPhase := rfl
@[simp] theorem devClose_rxf : (devClose s).rxf = s.rxf := rfl
@[simp] theorem devClose_rxShape : (devClose s).rxShape = s.rxShape := rfl
@[simp] theorem devClose_rxLen : (devClose s).rxLen = s.rxLen := rfl
@[simp] theorem devClose_rxFrameNo : (devClose s).rxFrameNo = s.rxFrameNo := rfl
@[simp] theorem devClose_rxFrameCnt : (devClose s).rxFrameCnt = s.rxFrameCnt := rfl
@[simp] theorem devClose_rxOk : (devClose s).rxOk = s.rxOk := rfl
@[simp] theorem devClose_rxPayload : (devClose s).rxPayload = s.rxPayload := rfl
@[simp] theorem devClose_r2 : (devClose s).r2 = s.r2 := rfl
@[simp] theorem devClose_r1 : (devClose s).r1 = s.r1 := rfl
@[simp] theorem devClose_lockOwner : (devClose s).lockOwner = s.lockOwner := rfl
@[simp] theorem devClose_constructed : (devClose s).constructed = s.constructed := rfl
@[simp] theorem devClose_heldSends : (devClose s).heldSends = s.heldSends := rfl
@[simp] theorem devClose_heldReceives : (devClose s).heldReceives = s.heldReceives := rfl
@[simp] theorem devClose_devIn : (devClose s).devIn = s.devIn := rfl
@[simp] theorem devClose_devOut : (devClose s).devOut = s.devOut := rfl
@[simp] theorem devClose_deviceOpen : (devClose s).deviceOpen = false := rfl
@[simp] theorem devClose_returns : (devClose s).returns = s.returns := rfl
@[simp] theorem devClose_hostOut : (devClose s).hostOut = s.hostOut := rfl
@[simp] theorem devClose_fcOut : (devClose s).fcOut = s.fcOut := rfl
@[simp] theorem devClose_turns : (devClose s).turns = s.turns := rfl
@[simp] theorem devClose_answers : (devClose s).answers = s.answers := rfl
@[simp] theorem devClose_freeCount : (devClose s).freeCount = s.freeCount := rfl

/-! ### lockRelease -/

@[simp] theorem lockRelease_sState (e : Engine) : (lockRelease e s).sState = s.sState := rfl
@[simp] theorem lockRelease_sRun (e : Engine) : (lockRelease e s).sRun = s.sRun := rfl
@[simp] theorem lockRelease_sEvent (e : Engine) : (lockRelease e s).sEvent = s.sEvent := rfl
@[simp] theorem lockRelease_sPhase (e : Engine) : (lockRelease e s).sPhase = s.sPhase := rfl
@[simp] theorem lockRelease_txf (e : Engine) : (lockRelease e s).txf = s.txf := rfl
@[simp] theorem lockRelease_txCursor (e : Engine) : (lockRelease e s).txCursor = s.txCursor := rfl
@[simp] theorem lockRelease_txOk (e : Engine) : (lockRelease e s).txOk = s.txOk := rfl
@[simp] theorem lockRelease_txPayload (e : Engine) : (lockRelease e s).txPayload = s.txPayload := rfl
@[simp] theorem lockRelease_rState (e : Engine) : (lockRelease e s).rState = s.rState := rfl
@[simp] theorem lockRelease_rRun (e : Engine) : (lockRelease e s).rRun = s.rRun := rfl
@[simp] theorem lockRelease_rEvent (e : Engine) : (lockRelease e s).rEvent = s.rEvent := rfl
@[simp] theorem lockRelease_rPhase (e : Engine) : (lockRelease e s).rPhase = s.rPhase := rfl
@[simp] theorem lockRelease_rxf (e : Engine) : (lockRelease e s).rxf = s.rxf := rfl
@[simp] theorem lockRelease_rxShape (e : Engine) : (lockRelease e s).rxShape = s.rxShape := rfl
@[simp] theorem lockRelease_rxLen (e : Engine) : (lockRelease e s).rxLen = s.rxLen := rfl
@[simp] theorem lockRelease_rxFrameNo (e : Engine) : (lockRelease e s).rxFrameNo = s.rxFrameNo := rfl
@[simp] theorem lockRelease_rxFrameCnt (e : Engine) : (lockRelease e s).rxFrameCnt = s.rxFrameCnt := rfl
@[simp] theorem lockRelease_rxOk (e : Engine) : (lockRelease e s).rxOk = s.rxOk := rfl
@[simp] theorem lockRelease_rxPayload (e : Engine) : (lockRelease e s).rxPayload = s.rxPayload := rfl
@[simp] theorem lockRelease_r2 (e : Engine) : (lockRelease e s).r2 = s.r2 := rfl
@[simp] theorem lockRelease_r1 (e : Engine) : (lockRelease e s).r1 = s.r1 := rfl
@[simp] theorem lockRelease_lockOwner (e : Engine) : (lockRelease e s).lockOwner = if s.lockOwner = some e then none else s.lockOwner := rfl
@[simp] theorem lockRelease_constructed (e : Engine) : (lockRelease e s).constructed = s.constructed := rfl
@[simp] theorem lockRelease_heldSends (e : Engine) : (lockRelease e s).heldSends = s.heldSends := rfl
@[simp] theorem lockRelease_heldReceives (e : Engine) : (lockRelease e s).heldReceives = s.heldReceives := rfl
@[simp] theorem lockRelease_devIn (e : Engine) : (lockRelease e s).devIn = s.devIn := rfl
@[simp] theorem lockRelease_devOut (e : Engine) : (lockRelease e s).devOut = s.devOut := rfl
@[simp] theorem lockRelease_deviceOpen (e : Engine) : (lockRelease e s).deviceOpen = s.deviceOpen := rfl
@[simp] theorem lockRelease_returns (e : Engine) : (lockRelease e s).returns = s.returns := rfl
@[simp] theorem lockRelease_hostOut (e : Engine) : (lockRelease e s).hostOut = s.hostOut := rfl
@[simp] theorem lockRelease_fcOut (e : Engine) : (lockRelease e s).fcOut = s.fcOut := rfl
@[simp] theorem lockRelease_turns (e : Engine) : (lockRelease e s).turns = s.turns := rfl
@[simp] theorem lockRelease_answers (e : Engine) : (lockRelease e s).answers = s.answers := rfl
@[simp] theorem lockRelease_freeCount (e : Engine) : (lockRelease e s).freeCount = s.freeCount := rfl

/-! ### sendEmit -/

@[simp] theorem sendEmit_sState (st : SendState) (ev : Event) : (sendEmit st ev s).sState = (tSend st ev).getD s.sState := rfl
@[simp] theorem sendEmit_sRun (st : SendState) (ev : Event) : (sendEmit st ev s).sRun = s.sRun := rfl
@[simp] theorem sendEmit_sEvent (st : SendState) (ev : Event) : (sendEmit st ev s).sEvent = ev := rfl
@[simp] theorem sendEmit_sPhase (st : SendState) (ev : Event) : (sendEmit st ev s).sPhase = .start := rfl
@[simp] theorem sendEmit_txf (st : SendState) (ev : Event) : (sendEmit st ev s).txf = s.txf := rfl
@[simp] theorem sendEmit_txCursor (st : SendState) (ev : Event) : (sendEmit st ev s).txCursor = s.txCursor := rfl
@[simp] theorem sendEmit_txOk (st : SendState) (ev : Event) : (sendEmit st ev s).txOk = s.txOk := rfl
@[simp] theorem sendEmit_txPayload (st : SendState) (ev : Event) : (sendEmit st ev s).txPayload = s.txPayload := rfl
@[simp] theorem sendEmit_rState (st : SendState) (ev : Event) : (sendEmit st ev s).rState = s.rState := rfl
@[simp] theorem sendEmit_rRun (st : SendState) (ev : Event) : (sendEmit st ev s).rRun = s.rRun := rfl
@[simp] theorem sendEmit_rEvent (st : SendState) (ev : Event) : (sendEmit st ev s).rEvent = s.rEvent := rfl
@[simp] theorem sendEmit_rPhase (st : SendState) (ev : Event) : (sendEmit st ev s).rPhase = s.rPhase := rfl
@[simp] theorem sendEmit_rxf (st : SendState) (ev : Event) : (sendEmit st ev s).rxf = s.rxf := rfl
@[simp] theorem sendEmit_rxShape (st : SendState) (ev : Event) : (sendEmit st ev s).rxShape = s.rxShape := rfl
@[simp] theorem sendEmit_rxLen (st : SendState) (ev : Event) : (sendEmit st ev s).rxLen = s.rxLen := rfl
@[simp] theorem sendEmit_rxFrameNo (st : SendState) (ev : Event) : (sendEmit st ev s).rxFrameNo = s.rxFrameNo := rfl
@[simp] theorem sendEmit_rxFrameCnt (st : SendState) (ev : Event) : (sendEmit st ev s).rxFrameCnt = s.rxFrameCnt := rfl
@[simp] theorem sendEmit_rxOk (st : SendState) (ev : Event) : (sendEmit st ev s).rxOk = s.rxOk := rfl
@[simp] theorem sendEmit_rxPayload (st : SendState) (ev : Event) : (sendEmit st ev s).rxPayload = s.rxPayload := rfl
@[simp] theorem sendEmit_r2 (st : SendState) (ev : Event) : (sendEmit st ev s).r2 = s.r2 := rfl
@[simp] theorem sendEmit_r1 (st : SendState) (ev : Event) : (sendEmit st ev s).r1 = s.r1 := rfl
@[simp] theorem sendEmit_lockOwner (st : SendState) (ev : Event) : (sendEmit st ev s).lockOwner = s.lockOwner := rfl
@[simp] theorem sendEmit_constructed (st : SendState) (ev : Event) : (sendEmit st ev s).constructed = s.constructed := rfl
@[simp] theorem sendEmit_heldSends (st : SendState) (ev : Event) : (sendEmit st ev s).heldSends = s.heldSends := rfl
@[simp] theorem sendEmit_heldReceives (st : SendState) (ev : Event) : (sendEmit st ev s).heldReceives = s.heldReceives := rfl
@[simp] theorem sendEmit_devIn (st : SendState) (ev : Event) : (sendEmit st ev s).devIn = s.devIn := rfl
@[simp] theorem sendEmit_devOut (st : SendState) (ev : Event) : (sendEmit st ev s).devOut = s.devOut := rfl
@[simp] theorem sendEmit_deviceOpen (st : SendState) (ev : Event) : (sendEmit st ev s).deviceOpen = s.deviceOpen := rfl
@[simp] theorem sendEmit_returns (st : SendState) (ev : Event) : (sendEmit st ev s).returns = s.returns := rfl
@[simp] theorem sendEmit_hostOut (st : SendState) (ev : Event) : (sendEmit st ev s).hostOut = s.hostOut := rfl
@[simp] theorem sendEmit_fcOut (st : SendState) (ev : Event) : (sendEmit st ev s).fcOut = s.fcOut := rfl
@[simp] theorem sendEmit_turns (st : SendState) (ev : Event) : (sendEmit st ev s).turns = s.turns := rfl
@[simp] theorem sendEmit_answers (st : SendState) (ev : Event) : (sendEmit st ev s).answers = s.answers := rfl
@[simp] theorem sendEmit_freeCount (st : SendState) (ev : Event) : (sendEmit st ev s).freeCount = s.freeCount := rfl

/-! ### recvEmit -/

@[simp] theorem recvEmit_sState (st : RecvState) (ev : Event) : (recvEmit st ev s).sState = s.sState := rfl
@[simp] theorem recvEmit_sRun (st : RecvState) (ev : Event) : (recvEmit st ev s).sRun = s.sRun := rfl
@[simp] theorem recvEmit_sEvent (st : RecvState) (ev : Event) : (recvEmit st ev s).sEvent = s.sEvent := rfl
@[simp] theorem recvEmit_sPhase (st : RecvState) (ev : Event) : (recvEmit st ev s).sPhase = s.sPhase := rfl
@[simp] theorem recvEmit_txf (st : RecvState) (ev : Event) : (recvEmit st ev s).txf = s.txf := rfl
@[simp] theorem recvEmit_txCursor (st : RecvState) (ev : Event) : (recvEmit st ev s).txCursor = s.txCursor := rfl
@[simp] theorem recvEmit_txOk (st : RecvState) (ev : Event) : (recvEmit st ev s).txOk = s.txOk := rfl
@[simp] theorem recvEmit_txPayload (st : RecvState) (ev : Event) : (recvEmit st ev s).txPayload = s.txPayload := rfl
@[simp] theorem recvEmit_rState (st : RecvState) (ev : Event) : (recvEmit st ev s).rState = (tRecv st ev).getD s.rState := rfl
@[simp] theorem recvEmit_rRun (st : RecvState) (ev : Event) : (recvEmit st ev s).rRun = s.rRun := rfl
@[simp] theorem recvEmit_rEvent (st : RecvState) (ev : Event) : (recvEmit st ev s).rEvent = ev := rfl
@[simp] theorem recvEmit_rPhase (st : RecvState) (ev : Event) : (recvEmit st ev s).rPhase = .start := rfl
@[simp] theorem recvEmit_rxf (st : RecvState) (ev : Event) : (recvEmit st ev s).rxf = s.rxf := rfl
@[simp] theorem recvEmit_rxShape (st : RecvState) (ev : Event) : (recvEmit st ev s).rxShape = s.rxShape := rfl
@[simp] theorem recvEmit_rxLen (st : RecvState) (ev : Event) : (recvEmit st ev s).rxLen = s.rxLen := rfl
@[simp] theorem recvEmit_rxFrameNo (st : RecvState) (ev : Event) : (recvEmit st ev s).rxFrameNo = s.rxFrameNo := rfl
@[simp] theorem recvEmit_rxFrameCnt (st : RecvState) (ev : Event) : (recvEmit st ev s).rxFrameCnt = s.rxFrameCnt := rfl
@[simp] theorem recvEmit_rxOk (st : RecvState) (ev : Event) : (recvEmit st ev s).rxOk = s.rxOk := rfl
@[simp] theorem recvEmit_rxPayload (st : RecvState) (ev : Event) : (recvEmit st ev s).rxPayload = s.rxPayload := rfl
@[simp] theorem recvEmit_r2 (st : RecvState) (ev : Event) : (recvEmit st ev s).r2 = s.r2 := rfl
@[simp] theorem recvEmit_r1 (st : RecvState) (ev : Event) : (recvEmit st ev s).r1 = s.r1 := rfl
@[simp] theorem recvEmit_lockOwner (st : RecvState) (ev : Event) : (recvEmit st ev s).lockOwner = s.lockOwner := rfl
@[simp] theorem recvEmit_constructed (st : RecvState) (ev : Event) : (recvEmit st ev s).constructed = s.constructed := rfl
@[simp] theorem recvEmit_heldSends (st : RecvState) (ev : Event) : (recvEmit st ev s).heldSends = s.heldSends := rfl
@[simp] theorem recvEmit_heldReceives (st : RecvState) (ev : Event) : (recvEmit st ev s).heldReceives = s.heldReceives := rfl
@[simp] theorem recvEmit_devIn (st : RecvState) (ev : Event) : (recvEmit st ev s).devIn = s.devIn := rfl
@[simp] theorem recvEmit_devOut (st : RecvState) (ev : Event) : (recvEmit st ev s).devOut = s.devOut := rfl
@[simp] theorem recvEmit_deviceOpen (st : RecvState) (ev : Event) : (recvEmit st ev s).deviceOpen = s.deviceOpen := rfl
@[simp] theorem recvEmit_returns (st : RecvState) (ev : Event) : (recvEmit st ev s).returns = s.returns := rfl
@[simp] theorem recvEmit_hostOut (st : RecvState) (ev : Event) : (recvEmit st ev s).hostOut = s.hostOut := rfl
@[simp] theorem recvEmit_fcOut (st : RecvState) (ev : Event) : (recvEmit st ev s).fcOut = s.fcOut := rfl
@[simp] theorem recvEmit_turns (st : RecvState) (ev : Event) : (recvEmit st ev s).turns = s.turns := rfl
@[simp] theorem recvEmit_answers (st : RecvState) (ev : Event) : (recvEmit st ev s).answers = s.answers := rfl
@[simp] theorem recvEmit_freeCount (st : RecvState) (ev : Event) : (recvEmit st ev s).freeCount = s.freeCount := rfl

/-! ### rxAppend -/

@[simp] theorem rxAppend_sState (bs : Bytes) : (rxAppend bs s).sState = s.sState := rfl
@[simp] theorem rxAppend_sRun (bs : Bytes) : (rxAppend bs s).sRun = s.sRun := rfl
@[simp] theorem rxAppend_sEvent (bs : Bytes) : (rxAppend bs s).sEvent = s.sEvent := rfl
@[simp] theorem rxAppend_sPhase (bs : Bytes) : (rxAppend bs s).sPhase = s.sPhase := rfl
@[simp] theorem rxAppend_txf (bs : Bytes) : (rxAppend bs s).txf = s.txf := rfl
@[simp] theorem rxAppend_txCursor (bs : Bytes) : (rxAppend bs s).txCursor = s.txCursor := rfl
@[simp] theorem rxAppend_txOk (bs : Bytes) : (rxAppend bs s).txOk = s.txOk := rfl
@[simp] theorem rxAppend_txPayload (bs : Bytes) : (rxAppend bs s).txPayload = s.txPayload := rfl
@[simp] theorem rxAppend_rState (bs : Bytes) : (rxAppend bs s).rState = s.rState := rfl
@[simp] theorem rxAppend_rRun (bs : Bytes) : (rxAppend bs s).rRun = s.rRun := rfl
@[simp] theorem rxAppend_rEvent (bs : Bytes) : (rxAppend bs s).rEvent = s.rEvent := rfl
@[simp] theorem rxAppend_rPhase (bs : Bytes) : (rxAppend bs s).rPhase = s.rPhase := rfl
@[simp] theorem rxAppend_rxf (bs : Bytes) : (rxAppend bs s).rxf = s.rxf.dropLast ++ [s.rxf.getLastD [] ++ bs] := rfl
@[simp] theorem rxAppend_rxShape (bs : Bytes) : (rxAppend bs s).rxShape = s.rxShape := rfl
@[simp] theorem rxAppend_rxLen (bs : Bytes) : (rxAppend bs s).rxLen = s.rxLen := rfl
@[simp] theorem rxAppend_rxFrameNo (bs : Bytes) : (rxAppend bs s).rxFrameNo = s.rxFrameNo := rfl
@[simp] theorem rxAppend_rxFrameCnt (bs : Bytes) : (rxAppend bs s).rxFrameCnt = s.rxFrameCnt := rfl
@[simp] theorem rxAppend_rxOk (bs : Bytes) : (rxAppend bs s).rxOk = s.rxOk := rfl
@[simp] theorem rxAppend_rxPayload (bs : Bytes) : (rxAppend bs s).rxPayload = s.rxPayload := rfl
@[simp] theorem rxAppend_r2 (bs : Bytes) : (rxAppend bs s).r2 = s.r2 := rfl
@[simp] theorem rxAppend_r1 (bs : Bytes) : (rxAppend bs s).r1 = s.r1 := rfl
@[simp] theorem rxAppend_lockOwner (bs : Bytes) : (rxAppend bs s).lockOwner = s.lockOwner := rfl
@[simp] theorem rxAppend_constructed (bs : Bytes) : (rxAppend bs s).constructed = s.constructed := rfl
@[simp] theorem rxAppend_heldSends (bs : Bytes) : (rxAppend bs s).heldSends = s.heldSends := rfl
@[simp] theorem rxAppend_heldReceives (bs : Bytes) : (rxAppend bs s).heldReceives = s.heldReceives := rfl
@[simp] theorem rxAppend_devIn (bs : Bytes) : (rxAppend bs s).devIn = s.devIn := rfl
@[simp] theorem rxAppend_devOut (bs : Bytes) : (rxAppend bs s).devOut = s.devOut := rfl
@[simp] theorem rxAppend_deviceOpen (bs : Bytes) : (rxAppend bs s).deviceOpen = s.deviceOpen := rfl
@[simp] theorem rxAppend_returns (bs : Bytes) : (rxAppend bs s).returns = s.returns := rfl
@[simp] theorem rxAppend_hostOut (bs : Bytes) : (rxAppend bs s).hostOut = s.hostOut := rfl
@[simp] theorem rxAppend_fcOut (bs : Bytes) : (rxAppend bs s).fcOut = s.fcOut := rfl
@[simp] theorem rxAppend_turns (bs : Bytes) : (rxAppend bs s).turns = s.turns := rfl
@[simp] theorem rxAppend_answers (bs : Bytes) : (rxAppend bs s).answers = s.answers := rfl
@[simp] theorem rxAppend_freeCount (bs : Bytes) : (rxAppend bs s).freeCount = s.freeCount := rfl

/-! ### rxClear -/

@[simp] theorem rxClear_sState : (rxClear s).sState = s.sState := rfl
@[simp] theorem rxClear_sRun : (rxClear s).sRun = s.sRun := rfl
@[simp] theorem rxClear_sEvent : (rxClear s).sEvent = s.sEvent := rfl
@[simp] theorem rxClear_sPhase : (rxClear s).sPhase = s.sPhase := rfl
@[simp] theorem rxClear_txf : (rxClear s).txf = s.txf := rfl
@[simp] theorem rxClear_txCursor : (rxClear s).txCursor = s.txCursor := rfl
@[simp] theorem rxClear_txOk : (rxClear s).txOk = s.txOk := rfl
@[simp] theorem rxClear_txPayload : (rxClear s).txPayload = s.txPayload := rfl
@[simp] theorem rxClear_rState : (rxClear s).rState = s.rState := rfl
@[simp] theorem rxClear_rRun : (rxClear s).rRun = s.rRun := rfl
@[simp] theorem rxClear_rEvent : (rxClear s).rEvent = s.rEvent := rfl
@[simp] theorem rxClear_rPhase : (rxClear s).rPhase = s.rPhase := rfl
@[simp] theorem rxClear_rxf : (rxClear s).rxf = s.rxf.dropLast ++ [[]] := rfl
@[simp] theorem rxClear_rxShape : (rxClear s).rxShape = s.rxShape := rfl
@[simp] theorem rxClear_rxLen : (rxClear s).rxLen = s.rxLen := rfl
@[simp] theorem rxClear_rxFrameNo : (rxClear s).rxFrameNo = s.rxFrameNo := rfl
@[simp] theorem rxClear_rxFrameCnt : (rxClear s).rxFrameCnt = s.rxFrameCnt := rfl
@[simp] theorem rxClear_rxOk : (rxClear s).rxOk = s.rxOk := rfl
@[simp] theorem rxClear_rxPayload : (rxClear s).rxPayload = s.rxPayload := rfl
@[simp] theorem rxClear_r2 : (rxClear s).r2 = s.r2 := rfl
@[simp] theorem rxClear_r1 : (rxClear s).r1 = s.r1 := rfl
@[simp] theorem rxClear_lockOwner : (rxClear s).lockOwner = s.lockOwner := rfl
@[simp] theorem rxClear_constructed : (rxClear s).constructed = s.constructed := rfl
@[simp] theorem rxClear_heldSends : (rxClear s).heldSends = s.heldSends := rfl
@[simp] theorem rxClear_heldReceives : (rxClear s).heldReceives = s.heldReceives := rfl
@[simp] theorem rxClear_devIn : (rxClear s).devIn = s.devIn := rfl
@[simp] theorem rxClear_devOut : (rxClear s).devOut = s.devOut := rfl
@[simp] theorem rxClear_deviceOpen : (rxClear s).deviceOpen = s.deviceOpen := rfl
@[simp] theorem rxClear_returns : (rxClear s).returns = s.returns := rfl
@[simp] theorem rxClear_hostOut : (rxClear s).hostOut = s.hostOut := rfl
@[simp] theorem rxClear_fcOut : (rxClear s).fcOut = s.fcOut := rfl
@[simp] theorem rxClear_turns : (rxClear s).turns = s.turns := rfl
@[simp] theorem rxClear_answers : (rxClear s).answers = s.answers := rfl
@[simp] theorem rxClear_freeCount : (rxClear s).freeCount = s.freeCount := rfl

/-! ### rxNewBuffer -/

@[simp] theorem rxNewBuffer_sState : (rxNewBuffer s).sState = s.sState := rfl
@[simp] theorem rxNewBuffer_sRun : (rxNewBuffer s).sRun = s.sRun := rfl
@[simp] theorem rxNewBuffer_sEvent : (rxNewBuffer s).sEvent = s.sEvent := rfl
@[simp] theorem rxNewBuffer_sPhase : (rxNewBuffer s).sPhase = s.sPhase := rfl
@[simp] theorem rxNewBuffer_txf : (rxNewBuffer s).txf = s.txf := rfl
@[simp] theorem rxNewBuffer_txCursor : (rxNewBuffer s).txCursor = s.txCursor := rfl
@[simp] theorem rxNewBuffer_txOk : (rxNewBuffer s).txOk = s.txOk := rfl
@[simp] theorem rxNewBuffer_txPayload : (rxNewBuffer s).txPayload = s.txPayload := rfl
@[simp] theorem rxNewBuffer_rState : (rxNewBuffer s).rState = s.rState := rfl
@[simp] theorem rxNewBuffer_rRun : (rxNewBuffer s).rRun = s.rRun := rfl
@[simp] theorem rxNewBuffer_rEvent : (rxNewBuffer s).rEvent = s.rEvent := rfl
@[simp] theorem rxNewBuffer_rPhase : (rxNewBuffer s).rPhase = s.rPhase := rfl
@[simp] theorem rxNewBuffer_rxf : (rxNewBuffer s).rxf = s.rxf ++ [[]] := rfl
@[simp] theorem rxNewBuffer_rxShape : (rxNewBuffer s).rxShape = s.rxShape := rfl
@[simp] theorem rxNewBuffer_rxLen : (rxNewBuffer s).rxLen = s.rxLen := rfl
@[simp] theorem rxNewBuffer_rxFrameNo : (rxNewBuffer s).rxFrameNo = s.rxFrameNo := rfl
@[simp] theorem rxNewBuffer_rxFrameCnt : (rxNewBuffer s).rxFrameCnt = s.rxFrameCnt := rfl
@[simp] theorem rxNewBuffer_rxOk : (rxNewBuffer s).rxOk = s.rxOk := rfl
@[simp] theorem rxNewBuffer_rxPayload : (rxNewBuffer s).rxPayload = s.rxPayload := rfl
@[simp] theorem rxNewBuffer_r2 : (rxNewBuffer s).r2 = s.r2 := rfl
@[simp] theorem rxNewBuffer_r1 : (rxNewBuffer s).r1 = s.r1 := rfl
@[simp] theorem rxNewBuffer_lockOwner : (rxNewBuffer s).lockOwner = s.lockOwner := rfl
@[simp] theorem rxNewBuffer_constructed : (rxNewBuffer s).constructed = s.constructed := rfl
@[simp] theorem rxNewBuffer_heldSends : (rxNewBuffer s).heldSends = s.heldSends := rfl
@[simp] theorem rxNewBuffer_heldReceives : (rxNewBuffer s).heldReceives = s.heldReceives := rfl
@[simp] theorem rxNewBuffer_devIn : (rxNewBuffer s).devIn = s.devIn := rfl
@[simp] theorem rxNewBuffer_devOut : (rxNewBuffer s).devOut = s.devOut := rfl
@[simp] theorem rxNewBuffer_deviceOpen : (rxNewBuffer s).deviceOpen = s.deviceOpen := rfl
@[simp] theorem rxNewBuffer_returns : (rxNewBuffer s).returns = s.returns := rfl
@[simp] theorem rxNewBuffer_hostOut : (rxNewBuffer s).hostOut = s.hostOut := rfl
@[simp] theorem rxNewBuffer_fcOut : (rxNewBuffer s).fcOut = s.fcOut := rfl
@[simp] theorem rxNewBuffer_turns : (rxNewBuffer s).turns = s.turns := rfl
@[simp] theorem rxNewBuffer_answers : (rxNewBuffer s).answers = s.answers := rfl
@[simp] theorem rxNewBuffer_freeCount : (rxNewBuffer s).freeCount = s.freeCount := rfl

/-! ### arrive -/

@[simp] theorem arrive_sState (bs : Bytes) : (arrive bs s).sState = s.sState := rfl
@[simp] theorem arrive_sRun (bs : Bytes) : (arrive bs s).sRun = s.sRun := rfl
@[simp] theorem arrive_sEvent (bs : Bytes) : (arrive bs s).sEvent = s.sEvent := rfl
@[simp] theorem arrive_sPhase (bs : Bytes) : (arrive bs s).sPhase = s.sPhase := rfl
@[simp] theorem arrive_txf (bs : Bytes) : (arrive bs s).txf = s.txf := rfl
@[simp] theorem arrive_txCursor (bs : Bytes) : (arrive bs s).txCursor = s.txCursor := rfl
@[simp] theorem arrive_txOk (bs : Bytes) : (arrive bs s).txOk = s.txOk := rfl
@[simp] theorem arrive_txPayload (bs : Bytes) : (arrive bs s).txPayload = s.txPayload := rfl
@[simp] theorem arrive_rState (bs : Bytes) : (arrive bs s).rState = s.rState := rfl
@[simp] theorem arrive_rRun (bs : Bytes) : (arrive bs s).rRun = s.rRun := rfl
@[simp] theorem arrive_rEvent (bs : Bytes) : (arrive bs s).rEvent = s.rEvent := rfl
@[simp] theorem arrive_rPhase (bs : Bytes) : (arrive bs s).rPhase = s.rPhase := rfl
@[simp] theorem arrive_rxf (bs : Bytes) : (arrive bs s).rxf = s.rxf := rfl
@[simp] theorem arrive_rxShape (bs : Bytes) : (arrive bs s).rxShape = s.rxShape := rfl
@[simp] theorem arrive_rxLen (bs : Bytes) : (arrive bs s).rxLen = s.rxLen := rfl
@[simp] theorem arrive_rxFrameNo (bs : Bytes) : (arrive bs s).rxFrameNo = s.rxFrameNo := rfl
@[simp] theorem arrive_rxFrameCnt (bs : Bytes) : (arrive bs s).rxFrameCnt = s.rxFrameCnt := rfl
@[simp] theorem arrive_rxOk (bs : Bytes) : (arrive bs s).rxOk = s.rxOk := rfl
@[simp] theorem arrive_rxPayload (bs : Bytes) : (arrive bs s).rxPayload = s.rxPayload := rfl
@[simp] theorem arrive_r2 (bs : Bytes) : (arrive bs s).r2 = s.r2 := rfl
@[simp] theorem arrive_r1 (bs : Bytes) : (arrive bs s).r1 = s.r1 := rfl
@[simp] theorem arrive_lockOwner (bs : Bytes) : (arrive bs s).lockOwner = s.lockOwner := rfl
@[simp] theorem arrive_constructed (bs : Bytes) : (arrive bs s).constructed = s.constructed := rfl
@[simp] theorem arrive_heldSends (bs : Bytes) : (arrive bs s).heldSends = s.heldSends := rfl
@[simp] theorem arrive_heldReceives (bs : Bytes) : (arrive bs s).heldReceives = s.heldReceives := rfl
@[simp] theorem arrive_devIn (bs : Bytes) : (arrive bs s).devIn = s.devIn ++ bs := rfl
@[simp] theorem arrive_devOut (bs : Bytes) : (arrive bs s).devOut = s.devOut := rfl
@[simp] theorem arrive_deviceOpen (bs : Bytes) : (arrive bs s).deviceOpen = s.deviceOpen := rfl
@[simp] theorem arrive_returns (bs : Bytes) : (arrive bs s).returns = s.returns := rfl
@[simp] theorem arrive_hostOut (bs : Bytes) : (arrive bs s).hostOut = s.hostOut := rfl
@[simp] theorem arrive_fcOut (bs : Bytes) : (arrive bs s).fcOut = s.fcOut := rfl
@[simp] theorem arrive_turns (bs : Bytes) : (arrive bs s).turns = s.turns := rfl
@[simp] theorem arrive_answers (bs : Bytes) : (arrive bs s).answers = s.answers := rfl
@[simp] theorem arrive_freeCount (bs : Bytes) : (arrive bs s).freeCount = s.freeCount := rfl

/-! ### respond -/

@[simp] theorem respond_sState (r : HostResponse) : (respond r s).sState = s.sState := rfl
@[simp] theorem respond_sRun (r : HostResponse) : (respond r s).sRun = s.sRun := rfl
@[simp] theorem respond_sEvent (r : HostResponse) : (respond r s).sEvent = s.sEvent := rfl
@[simp] theorem respond_sPhase (r : HostResponse) : (respond r s).sPhase = s.sPhase := rfl
@[simp] theorem respond_txf (r : HostResponse) : (respond r s).txf = s.txf := rfl
@[simp] theorem respond_txCursor (r : HostResponse) : (respond r s).txCursor = s.txCursor := rfl
@[simp] theorem respond_txOk (r : HostResponse) : (respond r s).txOk = s.txOk := rfl
@[simp] theorem respond_txPayload (r : HostResponse) : (respond r s).txPayload = s.txPayload := rfl
@[simp] theorem respond_rState (r : HostResponse) : (respond r s).rState = s.rState := rfl
@[simp] theorem respond_rRun (r : HostResponse) : (respond r s).rRun = s.rRun := rfl
@[simp] theorem respond_rEvent (r : HostResponse) : (respond r s).rEvent = s.rEvent := rfl
@[simp] theorem respond_rPhase (r : HostResponse) : (respond r s).rPhase = s.rPhase := rfl
@[simp] theorem respond_rxf (r : HostResponse) : (respond r s).rxf = s.rxf := rfl
@[simp] theorem respond_rxShape (r : HostResponse) : (respond r s).rxShape = s.rxShape := rfl
@[simp] theorem respond_rxLen (r : HostResponse) : (respond r s).rxLen = s.rxLen := rfl
@[simp] theorem respond_rxFrameNo (r : HostResponse) : (respond r s).rxFrameNo = s.rxFrameNo := rfl
@[simp] theorem respond_rxFrameCnt (r : HostResponse) : (respond r s).rxFrameCnt = s.rxFrameCnt := rfl
@[simp] theorem respond_rxOk (r : HostResponse) : (respond r s).rxOk = s.rxOk := rfl
@[simp] theorem respond_rxPayload (r : HostResponse) : (respond r s).rxPayload = s.rxPayload := rfl
@[simp] theorem respond_r2 (r : HostResponse) : (respond r s).r2 = s.r2 := rfl
@[simp] theorem respond_r1 (r : HostResponse) : (respond r s).r1 = s.r1 := rfl
@[simp] theorem respond_lockOwner (r : HostResponse) : (respond r s).lockOwner = s.lockOwner := rfl
@[simp] theorem respond_constructed (r : HostResponse) : (respond r s).constructed = s.constructed := rfl
@[simp] theorem respond_heldSends (r : HostResponse) : (respond r s).heldSends = s.heldSends := rfl
@[simp] theorem respond_heldReceives (r : HostResponse) : (respond r s).heldReceives = s.heldReceives := rfl
@[simp] theorem respond_devIn (r : HostResponse) : (respond r s).devIn = s.devIn := rfl
@[simp] theorem respond_devOut (r : HostResponse) : (respond r s).devOut = s.devOut := rfl
@[simp] theorem respond_deviceOpen (r : HostResponse) : (respond r s).deviceOpen = s.deviceOpen := rfl
@[simp] theorem respond_returns (r : HostResponse) : (respond r s).returns = s.returns := rfl
@[simp] theorem respond_hostOut (r : HostResponse) : (respond r s).hostOut = s.hostOut ++ [r] := rfl
@[simp] theorem respond_fcOut (r : HostResponse) : (respond r s).fcOut = s.fcOut := rfl
@[simp] theorem respond_turns (r : HostResponse) : (respond r s).turns = s.turns := rfl
@[simp] theorem respond_answers (r : HostResponse) : (respond r s).answers = s.answers := rfl
@[simp] theorem respond_freeCount (r : HostResponse) : (respond r s).freeCount = s.freeCount := rfl

/-! ### callReturns -/

@[simp] theorem callReturns_sState (r : HostResponse) : (callReturns r s).sState = s.sState := rfl
@[simp] theorem callReturns_sRun (r : HostResponse) : (callReturns r s).sRun = s.sRun := rfl
@[simp] theorem callReturns_sEvent (r : HostResponse) : (callReturns r s).sEvent = s.sEvent := rfl
@[simp] theorem callReturns_sPhase (r : HostResponse) : (callReturns r s).sPhase = s.sPhase := rfl
@[simp] theorem callReturns_txf (r : HostResponse) : (callReturns r s).txf = s.txf := rfl
@[simp] theorem callReturns_txCursor (r : HostResponse) : (callReturns r s).txCursor = s.txCursor := rfl
@[simp] theorem callReturns_txOk (r : HostResponse) : (callReturns r s).txOk = s.txOk := rfl
@[simp] theorem callReturns_txPayload (r : HostResponse) : (callReturns r s).txPayload = s.txPayload := rfl
@[simp] theorem callReturns_rState (r : HostResponse) : (callReturns r s).rState = s.rState := rfl
@[simp] theorem callReturns_rRun (r : HostResponse) : (callReturns r s).rRun = s.rRun := rfl
@[simp] theorem callReturns_rEvent (r : HostResponse) : (callReturns r s).rEvent = s.rEvent := rfl
@[simp] theorem callReturns_rPhase (r : HostResponse) : (callReturns r s).rPhase = s.rPhase := rfl
@[simp] theorem callReturns_rxf (r : HostResponse) : (callReturns r s).rxf = s.rxf := rfl
@[simp] theorem callReturns_rxShape (r : HostResponse) : (callReturns r s).rxShape = s.rxShape := rfl
@[simp] theorem callReturns_rxLen (r : HostResponse) : (callReturns r s).rxLen = s.rxLen := rfl
@[simp] theorem callReturns_rxFrameNo (r : HostResponse) : (callReturns r s).rxFrameNo = s.rxFrameNo := rfl
@[simp] theorem callReturns_rxFrameCnt (r : HostResponse) : (callReturns r s).rxFrameCnt = s.rxFrameCnt := rfl
@[simp] theorem callReturns_rxOk (r : HostResponse) : (callReturns r s).rxOk = s.rxOk := rfl
@[simp] theorem callReturns_rxPayload (r : HostResponse) : (callReturns r s).rxPayload = s.rxPayload := rfl
@[simp] theorem callReturns_r2 (r : HostResponse) : (callReturns r s).r2 = s.r2 := rfl
@[simp] theorem callReturns_r1 (r : HostResponse) : (callReturns r s).r1 = s.r1 := rfl
@[simp] theorem callReturns_lockOwner (r : HostResponse) : (callReturns r s).lockOwner = s.lockOwner := rfl
@[simp] theorem callReturns_constructed (r : HostResponse) : (callReturns r s).constructed = s.constructed := rfl
@[simp] theorem callReturns_heldSends (r : HostResponse) : (callReturns r s).heldSends = s.heldSends := rfl
@[simp] theorem callReturns_heldReceives (r : HostResponse) : (callReturns r s).heldReceives = s.heldReceives := rfl
@[simp] theorem callReturns_devIn (r : HostResponse) : (callReturns r s).devIn = s.devIn := rfl
@[simp] theorem callReturns_devOut (r : HostResponse) : (callReturns r s).devOut = s.devOut := rfl
@[simp] theorem callReturns_deviceOpen (r : HostResponse) : (callReturns r s).deviceOpen = s.deviceOpen := rfl
@[simp] theorem callReturns_returns (r : HostResponse) : (callReturns r s).returns = s.returns ++ [r] := rfl
@[simp] theorem callReturns_hostOut (r : HostResponse) : (callReturns r s).hostOut = s.hostOut := rfl
@[simp] theorem callReturns_fcOut (r : HostResponse) : (callReturns r s).fcOut = s.fcOut := rfl
@[simp] theorem callReturns_turns (r : HostResponse) : (callReturns r s).turns = s.turns := rfl
@[simp] theorem callReturns_answers (r : HostResponse) : (callReturns r s).answers = s.answers := rfl
@[simp] theorem callReturns_freeCount (r : HostResponse) : (callReturns r s).freeCount = s.freeCount := rfl

/-! ### startSend -/

@[simp] theorem startSend_sState (p : Bytes) (fs : List Frame) : (startSend p fs s).sState = .idle := rfl
@[simp] theorem startSend_sRun (p : Bytes) (fs : List Frame) : (startSend p fs s).sRun = true := rfl
@[simp] theorem startSend_sEvent (p : Bytes) (fs : List Frame) : (startSend p fs s).sEvent = Config.freeEvent s.freeCount := rfl
@[simp] theorem startSend_sPhase (p : Bytes) (fs : List Frame) : (startSend p fs s).sPhase = .start := rfl
@[simp] theorem startSend_txf (p : Bytes) (fs : List Frame) : (startSend p fs s).txf = fs := rfl
@[simp] theorem startSend_txCursor (p : Bytes) (fs : List Frame) : (startSend p fs s).txCursor = 0 := rfl
@[simp] theorem startSend_txOk (p : Bytes) (fs : List Frame) : (startSend p fs s).txOk = false := rfl
@[simp] theorem startSend_txPayload (p : Bytes) (fs : List Frame) : (startSend p fs s).txPayload = p := rfl
@[simp] theorem startSend_rState (p : Bytes) (fs : List Frame) : (startSend p fs s).rState = s.rState := rfl
@[simp] theorem startSend_rRun (p : Bytes) (fs : List Frame) : (startSend p fs s).rRun = s.rRun := rfl
@[simp] theorem startSend_rEvent (p : Bytes) (fs : List Frame) : (startSend p fs s).rEvent = s.rEvent := rfl
@[simp] theorem startSend_rPhase (p : Bytes) (fs : List Frame) : (startSend p fs s).rPhase = s.rPhase := rfl
@[simp] theorem startSend_rxf (p : Bytes) (fs : List Frame) : (startSend p fs s).rxf = s.rxf := rfl
@[simp] theorem startSend_rxShape (p : Bytes) (fs : List Frame) : (startSend p fs s).rxShape = s.rxShape := rfl
@[simp] theorem startSend_rxLen (p : Bytes) (fs : List Frame) : (startSend p fs s).rxLen = s.rxLen := rfl
@[simp] theorem startSend_rxFrameNo (p : Bytes) (fs : List Frame) : (startSend p fs s).rxFrameNo = s.rxFrameNo := rfl
@[simp] theorem startSend_rxFrameCnt (p : Bytes) (fs : List Frame) : (startSend p fs s).rxFrameCnt = s.rxFrameCnt := rfl
@[simp] theorem startSend_rxOk (p : Bytes) (fs : List Frame) : (startSend p fs s).rxOk = s.rxOk := rfl
@[simp] theorem startSend_rxPayload (p : Bytes) (fs : List Frame) : (startSend p fs s).rxPayload = s.rxPayload := rfl
@[simp] theorem startSend_r2 (p : Bytes) (fs : List Frame) : (startSend p fs s).r2 = s.r2 := rfl
@[simp] theorem startSend_r1 (p : Bytes) (fs : List Frame) : (startSend p fs s).r1 = s.r1 := rfl
@[simp] theorem startSend_lockOwner (p : Bytes) (fs : List Frame) : (startSend p fs s).lockOwner = s.lockOwner := rfl
@[simp] theorem startSend_constructed (p : Bytes) (fs : List Frame) : (startSend p fs s).constructed = s.constructed := rfl
@[simp] theorem startSend_heldSends (p : Bytes) (fs : List Frame) : (startSend p fs s).heldSends = s.heldSends := rfl
@[simp] theorem startSend_heldReceives (p : Bytes) (fs : List Frame) : (startSend p fs s).heldReceives = s.heldReceives := rfl
@[simp] theorem startSend_devIn (p : Bytes) (fs : List Frame) : (startSend p fs s).devIn = s.devIn := rfl
@[simp] theorem startSend_devOut (p : Bytes) (fs : List Frame) : (startSend p fs s).devOut = s.devOut := rfl
@[simp] theorem startSend_deviceOpen (p : Bytes) (fs : List Frame) : (startSend p fs s).deviceOpen = s.deviceOpen := rfl
@[simp] theorem startSend_returns (p : Bytes) (fs : List Frame) : (startSend p fs s).returns = s.returns := rfl
@[simp] theorem startSend_hostOut (p : Bytes) (fs : List Frame) : (startSend p fs s).hostOut = s.hostOut := rfl
@[simp] theorem startSend_fcOut (p : Bytes) (fs : List Frame) : (startSend p fs s).fcOut = s.fcOut := rfl
@[simp] theorem startSend_turns (p : Bytes) (fs : List Frame) : (startSend p fs s).turns = s.turns := rfl
@[simp] theorem startSend_answers (p : Bytes) (fs : List Frame) : (startSend p fs s).answers = s.answers := rfl
@[simp] theorem startSend_freeCount (p : Bytes) (fs : List Frame) : (startSend p fs s).freeCount = s.freeCount + 1 := rfl

/-! ### startReceive -/

@[simp] theorem startReceive_sState : (startReceive s).sState = s.sState := rfl
@[simp] theorem startReceive_sRun : (startReceive s).sRun = s.sRun := rfl
@[simp] theorem startReceive_sEvent : (startReceive s).sEvent = s.sEvent := rfl
@[simp] theorem startReceive_sPhase : (startReceive s).sPhase = s.sPhase := rfl
@[simp] theorem startReceive_txf : (startReceive s).txf = s.txf := rfl
@[simp] theorem startReceive_txCursor : (startReceive s).txCursor = s.txCursor := rfl
@[simp] theorem startReceive_txOk : (startReceive s).txOk = s.txOk := rfl
@[simp] theorem startReceive_txPayload : (startReceive s).txPayload = s.txPayload := rfl
@[simp] theorem startReceive_rState : (startReceive s).rState = .idle := rfl
@[simp] theorem startReceive_rRun : (startReceive s).rRun = true := rfl
@[simp] theorem startReceive_rEvent : (startReceive s).rEvent = Config.freeEvent s.freeCount := rfl
@[simp] theorem startReceive_rPhase : (startReceive s).rPhase = .start := rfl
@[simp] theorem startReceive_rxf : (startReceive s).rxf = [[]] := rfl
@[simp] theorem startReceive_rxShape : (startReceive s).rxShape = .none := rfl
@[simp] theorem startReceive_rxLen : (startReceive s).rxLen = Config.freeLen s.freeCount := rfl
@[simp] theorem startReceive_rxFrameNo : (startReceive s).rxFrameNo = Config.freeFrameNo s.freeCount := rfl
@[simp] theorem startReceive_rxFrameCnt : (startReceive s).rxFrameCnt = Config.freeFrameCnt s.freeCount := rfl
@[simp] theorem startReceive_rxOk : (startReceive s).rxOk = false := rfl
@[simp] theorem startReceive_rxPayload : (startReceive s).rxPayload = none := rfl
@[simp] theorem startReceive_r2 : (startReceive s).r2 = s.r2 := rfl
@[simp] theorem startReceive_r1 : (startReceive s).r1 = s.r1 := rfl
@[simp] theorem startReceive_lockOwner : (startReceive s).lockOwner = s.lockOwner := rfl
@[simp] theorem startReceive_constructed : (startReceive s).constructed = s.constructed := rfl
@[simp] theorem startReceive_heldSends : (startReceive s).heldSends = s.heldSends := rfl
@[simp] theorem startReceive_heldReceives : (startReceive s).heldReceives = s.heldReceives := rfl
@[simp] theorem startReceive_devIn : (startReceive s).devIn = s.devIn := rfl
@[simp] theorem startReceive_devOut : (startReceive s).devOut = s.devOut := rfl
@[simp] theorem startReceive_deviceOpen : (startReceive s).deviceOpen = s.deviceOpen := rfl
@[simp] theorem startReceive_returns : (startReceive s).returns = s.returns := rfl
@[simp] theorem startReceive_hostOut : (startReceive s).hostOut = s.hostOut := rfl
@[simp] theorem startReceive_fcOut : (startReceive s).fcOut = s.fcOut := rfl
@[simp] theorem startReceive_turns : (startReceive s).turns = s.turns := rfl
@[simp] theorem startReceive_answers : (startReceive s).answers = s.answers := rfl
@[simp] theorem startReceive_freeCount : (startReceive s).freeCount = s.freeCount + 1 := rfl

/-! ### endSend -/

@[simp] theorem endSend_sState : (endSend s).sState = Config.freeSendState s.freeCount := rfl
@[simp] theorem endSend_sRun : (endSend s).sRun = false := rfl
@[simp] theorem endSend_sEvent : (endSend s).sEvent = Config.freeEvent s.freeCount := rfl
@[simp] theorem endSend_sPhase : (endSend s).sPhase = .start := rfl
@[simp] theorem endSend_txf : (endSend s).txf = Config.freeFrames s.freeCount := rfl
@[simp] theorem endSend_txCursor : (endSend s).txCursor = Config.freeCursor s.freeCount := rfl
@[simp] theorem endSend_txOk : (endSend s).txOk = s.txOk := rfl
@[simp] theorem endSend_txPayload : (endSend s).txPayload = Config.freePayload s.freeCount := rfl
@[simp] theorem endSend_rState : (endSend s).rState = s.rState := rfl
@[simp] theorem endSend_rRun : (endSend s).rRun = s.rRun := rfl
@[simp] theorem endSend_rEvent : (endSend s).rEvent = s.rEvent := rfl
@[simp] theorem endSend_rPhase : (endSend s).rPhase = s.rPhase := rfl
@[simp] theorem endSend_rxf : (endSend s).rxf = s.rxf := rfl
@[simp] theorem endSend_rxShape : (endSend s).rxShape = s.rxShape := rfl
@[simp] theorem endSend_rxLen : (endSend s).rxLen = s.rxLen := rfl
@[simp] theorem endSend_rxFrameNo : (endSend s).rxFrameNo = s.rxFrameNo := rfl
@[simp] theorem endSend_rxFrameCnt : (endSend s).rxFrameCnt = s.rxFrameCnt := rfl
@[simp] theorem endSend_rxOk : (endSend s).rxOk = s.rxOk := rfl
@[simp] theorem endSend_rxPayload : (endSend s).rxPayload = s.rxPayload := rfl
@[simp] theorem endSend_r2 : (endSend s).r2 = s.r2 := rfl
@[simp] theorem endSend_r1 : (endSend s).r1 = s.r1 := rfl
@[simp] theorem endSend_lockOwner : (endSend s).lockOwner = s.lockOwner := rfl
@[simp] theorem endSend_constructed : (endSend s).constructed = s.constructed := rfl
@[simp] theorem endSend_heldSends : (endSend s).heldSends = s.heldSends := rfl
@[simp] theorem endSend_heldReceives : (endSend s).heldReceives = s.heldReceives := rfl
@[simp] theorem endSend_devIn : (endSend s).devIn = s.devIn := rfl
@[simp] theorem endSend_devOut : (endSend s).devOut = s.devOut := rfl
@[simp] theorem endSend_deviceOpen : (endSend s).deviceOpen = s.deviceOpen := rfl
@[simp] theorem endSend_returns : (endSend s).returns = s.returns := rfl
@[simp] theorem endSend_hostOut : (endSend s).hostOut = s.hostOut := rfl
@[simp] theorem endSend_fcOut : (endSend s).fcOut = s.fcOut := rfl
@[simp] theorem endSend_turns : (endSend s).turns = s.turns := rfl
@[simp] theorem endSend_answers : (endSend s).answers = s.answers := rfl
@[simp] theorem endSend_freeCount : (endSend s).freeCount = s.freeCount + 1 := rfl

/-! ### endReceive -/

@[simp] theorem endReceive_sState : (endReceive s).sState = s.sState := rfl
@[simp] theorem endReceive_sRun : (endReceive s).sRun = s.sRun := rfl
@[simp] theorem endReceive_sEvent : (endReceive s).sEvent = s.sEvent := rfl
@[simp] theorem endReceive_sPhase : (endReceive s).sPhase = s.sPhase := rfl
@[simp] theorem endReceive_txf : (endReceive s).txf = s.txf := rfl
@[simp] theorem endReceive_txCursor : (endReceive s).txCursor = s.txCursor := rfl
@[simp] theorem endReceive_txOk : (endReceive s).txOk = s.txOk := rfl
@[simp] theorem endReceive_txPayload : (endReceive s).txPayload = s.txPayload := rfl
@[simp] theorem endReceive_rState : (endReceive s).rState = Config.freeRecvState s.freeCount := rfl
@[simp] theorem endReceive_rRun : (endReceive s).rRun = false := rfl
@[simp] theorem endReceive_rEvent : (endReceive s).rEvent = Config.freeEvent s.freeCount := rfl
@[simp] theorem endReceive_rPhase : (endReceive s).rPhase = .start := rfl
@[simp] theorem endReceive_rxf : (endReceive s).rxf = Config.freeFrames s.freeCount := rfl
@[simp] theorem endReceive_rxShape : (endReceive s).rxShape = Config.freeShape s.freeCount := rfl
@[simp] theorem endReceive_rxLen : (endReceive s).rxLen = Config.freeLen s.freeCount := rfl
@[simp] theorem endReceive_rxFrameNo : (endReceive s).rxFrameNo = Config.freeFrameNo s.freeCount := rfl
@[simp] theorem endReceive_rxFrameCnt : (endReceive s).rxFrameCnt = Config.freeFrameCnt s.freeCount := rfl
@[simp] theorem endReceive_rxOk : (endReceive s).rxOk = s.rxOk := rfl
@[simp] theorem endReceive_rxPayload : (endReceive s).rxPayload = s.rxPayload := rfl
@[simp] theorem endReceive_r2 : (endReceive s).r2 = s.r2 := rfl
@[simp] theorem endReceive_r1 : (endReceive s).r1 = s.r1 := rfl
@[simp] theorem endReceive_lockOwner : (endReceive s).lockOwner = s.lockOwner := rfl
@[simp] theorem endReceive_constructed : (endReceive s).constructed = s.constructed := rfl
@[simp] theorem endReceive_heldSends : (endReceive s).heldSends = s.heldSends := rfl
@[simp] theorem endReceive_heldReceives : (endReceive s).heldReceives = s.heldReceives := rfl
@[simp] theorem endReceive_devIn : (endReceive s).devIn = s.devIn := rfl
@[simp] theorem endReceive_devOut : (endReceive s).devOut = s.devOut := rfl
@[simp] theorem endReceive_deviceOpen : (endReceive s).deviceOpen = s.deviceOpen := rfl
@[simp] theorem endReceive_returns : (endReceive s).returns = s.returns := rfl
@[simp] theorem endReceive_hostOut : (endReceive s).hostOut = s.hostOut := rfl
@[simp] theorem endReceive_fcOut : (endReceive s).fcOut = s.fcOut := rfl
@[simp] theorem endReceive_turns : (endReceive s).turns = s.turns := rfl
@[simp] theorem endReceive_answers : (endReceive s).answers = s.answers := rfl
@[simp] theorem endReceive_freeCount : (endReceive s).freeCount = s.freeCount + 1 := rfl

/-! ### collect: a result that is there moves from `returns` to `hostOut`, and nothing else changes -/

@[simp] theorem collect_sState (k : Nat) : (collect k s).sState = s.sState := by unfold collect; split <;> rfl
@[simp] theorem collect_sRun (k : Nat) : (collect k s).sRun = s.sRun := by unfold collect; split <;> rfl
@[simp] theorem collect_sEvent (k : Nat) : (collect k s).sEvent = s.sEvent := by unfold collect; split <;> rfl
@[simp] theorem collect_sPhase (k : Nat) : (collect k s).sPhase = s.sPhase := by unfold collect; split <;> rfl
@[simp] theorem collect_txf (k : Nat) : (collect k s).txf = s.txf := by unfold collect; split <;> rfl
@[simp] theorem collect_txCursor (k : Nat) : (collect k s).txCursor = s.txCursor := by unfold collect; split <;> rfl
@[simp] theorem collect_txOk (k : Nat) : (collect k s).txOk = s.txOk := by unfold collect; split <;> rfl
@[simp] theorem collect_txPayload (k : Nat) : (collect k s).txPayload = s.txPayload := by unfold collect; split <;> rfl
@[simp] theorem collect_rState (k : Nat) : (collect k s).rState = s.rState := by unfold collect; split <;> rfl
@[simp] theorem collect_rRun (k : Nat) : (collect k s).rRun = s.rRun := by unfold collect; split <;> rfl
@[simp] theorem collect_rEvent (k : Nat) : (collect k s).rEvent = s.rEvent := by unfold collect; split <;> rfl
@[simp] theorem collect_rPhase (k : Nat) : (collect k s).rPhase = s.rPhase := by unfold collect; split <;> rfl
@[simp] theorem collect_rxf (k : Nat) : (collect k s).rxf = s.rxf := by unfold collect; split <;> rfl
@[simp] theorem collect_rxShape (k : Nat) : (collect k s).rxShape = s.rxShape := by unfold collect; split <;> rfl
@[simp] theorem collect_rxLen (k : Nat) : (collect k s).rxLen = s.rxLen := by unfold collect; split <;> rfl
@[simp] theorem collect_rxFrameNo (k : Nat) : (collect k s).rxFrameNo = s.rxFrameNo := by unfold collect; split <;> rfl
@[simp] theorem collect_rxFrameCnt (k : Nat) : (collect k s).rxFrameCnt = s.rxFrameCnt := by unfold collect; split <;> rfl
@[simp] theorem collect_rxOk (k : Nat) : (collect k s).rxOk = s.rxOk := by unfold collect; split <;> rfl
@[simp] theorem collect_rxPayload (k : Nat) : (collect k s).rxPayload = s.rxPayload := by unfold collect; split <;> rfl
@[simp] theorem collect_r2 (k : Nat) : (collect k s).r2 = s.r2 := by unfold collect; split <;> rfl
@[simp] theorem collect_r1 (k : Nat) : (collect k s).r1 = s.r1 := by unfold collect; split <;> rfl
@[simp] theorem collect_lockOwner (k : Nat) : (collect k s).lockOwner = s.lockOwner := by unfold collect; split <;> rfl
@[simp] theorem collect_constructed (k : Nat) : (collect k s).constructed = s.constructed := by unfold collect; split <;> rfl
@[simp] theorem collect_heldSends (k : Nat) : (collect k s).heldSends = s.heldSends := by unfold collect; split <;> rfl
@[simp] theorem collect_heldReceives (k : Nat) : (collect k s).heldReceives = s.heldReceives := by unfold collect; split <;> rfl
@[simp] theorem collect_devIn (k : Nat) : (collect k s).devIn = s.devIn := by unfold collect; split <;> rfl
@[simp] theorem collect_devOut (k : Nat) : (collect k s).devOut = s.devOut := by unfold collect; split <;> rfl
@[simp] theorem collect_deviceOpen (k : Nat) : (collect k s).deviceOpen = s.deviceOpen := by unfold collect; split <;> rfl
@[simp] theorem collect_fcOut (k : Nat) : (collect k s).fcOut = s.fcOut := by unfold collect; split <;> rfl
@[simp] theorem collect_turns (k : Nat) : (collect k s).turns = s.turns := by unfold collect; split <;> rfl
@[simp] theorem collect_answers (k : Nat) : (collect k s).answers = s.answers := by unfold collect; split <;> rfl
@[simp] theorem collect_freeCount (k : Nat) : (collect k s).freeCount = s.freeCount := by unfold collect; split <;> rfl

end Sys2Proof.Machine
end

