-- ==== Sys2Proof/Laws/Ops.lean ====
section
/-! SUPPORT. One lemma per shared operation that says once everything it can do. -/

namespace Sys2Proof.Machine

/-! ### Device primitives -/

/-- All that a read that does not wait can find. -/
theorem readNow_cases {inp inp' : Bytes} {r : ReadResult Byte} (h : readNow inp = (r, inp')) :
    (inp = [] ∧ r = .timeout ∧ inp' = inp) ∨ ∃ b, inp = b :: inp' ∧ r = .success b := by
  cases inp with
  | nil => cases h; exact .inl ⟨rfl, rfl, rfl⟩
  | cons b bs => cases h; exact .inr ⟨b, rfl, rfl⟩

/-- Where the stream holds enough bytes, or the device is open, a successful read takes them from the stream. -/
theorem readable_enough {isOpen : Bool} {n : Nat} {a : DevAnswer} {inp : Bytes} (h : isOpen = true ∨ n ≤ inp.length) :
    readable isOpen n a inp = inp := if_pos h

/-- What a successful read of one byte takes its byte from: the stream, or the answer of a closed device whose stream is
empty. -/
theorem readable_one (isOpen : Bool) (a : DevAnswer) (inp : Bytes) :
    readable isOpen 1 a inp = inp ∨ (isOpen = false ∧ inp = [] ∧ ∃ b, readable isOpen 1 a inp = [b]) := by
  unfold readable
  split
  · exact .inl rfl
  · next h =>
    obtain ⟨ho, hl⟩ := not_or.mp h
    obtain rfl : inp = [] := List.length_eq_zero_iff.mp (by omega)
    cases hs : a.stream with
    | nil => exact .inl rfl
    | cons b bs => exact .inr ⟨by simpa using ho, rfl, b, rfl⟩

/-- All that an answer can make of a one-byte read (60_exceptions R333). With deadline zero an open device times out on an
empty stream only (20_memory R72). -/
theorem read1_cases {isOpen : Bool} {t : Config.Deadline} {a : DevAnswer} {inp inp' : Bytes} {r : ReadResult Byte}
    (h : read1 isOpen t a inp = some (r, inp')) :
    (a.status = .error ∧ r = .error ∧ inp' = a.stream) ∨
    (r = .timeout ∧ inp' = inp ∧ a.status ≠ .error ∧ (isOpen = true → t = some 0 → inp = []) ∧
      (a.status = .success → inp = [])) ∨
    (∃ b, a.status ≠ .error ∧ r = .success b ∧
      (inp = b :: inp' ∨ (isOpen = false ∧ inp = [] ∧ inp' = []))) := by
  unfold read1 at h
  split at h
  · next hs => cases h; exact .inl ⟨hs, rfl, rfl⟩
  · next hs =>
    split at h
    · next ht =>
      rcases readNow_cases (Option.some.inj h) with ⟨he, rfl, rfl⟩ | ⟨b, hb, rfl⟩
      · exact .inr (.inl ⟨rfl, rfl, by simp [hs], fun _ _ => he, fun _ => he⟩)
      · exact .inr (.inr ⟨b, by simp [hs], rfl, .inl hb⟩)
    · next ht => cases h; exact .inr (.inl ⟨rfl, rfl, by simp [hs], fun h1 h2 => absurd ⟨h1, h2⟩ ht, by simp [hs]⟩)
  · next hs =>
    split at h
    · rcases readable_one isOpen a inp with hr | ⟨hf, rfl, b', hr⟩ <;> rw [hr] at h
      · rcases readNow_cases (Option.some.inj h) with ⟨he, rfl, rfl⟩ | ⟨b, hb, rfl⟩
        · exact .inr (.inl ⟨rfl, rfl, by simp [hs], fun _ _ => he, fun _ => he⟩)
        · exact .inr (.inr ⟨b, by simp [hs], rfl, .inl hb⟩)
      · cases h
        exact .inr (.inr ⟨b', by simp [hs], rfl, .inr ⟨hf, rfl, rfl⟩⟩)
    · cases h

/-- All that a one-byte read can do (60_exceptions R333). -/
theorem devRead1_cases {t : Config.Deadline} {s s' : State} {r : ReadResult Byte}
    (h : devRead1 t s = some (r, s')) :
    ∃ a rest inp, s.answers = a :: rest ∧ read1 s.deviceOpen t a s.devIn = some (r, inp) ∧
      s' = { s with answers := rest, devIn := inp } := by
  unfold devRead1 at h
  split at h
  · cases h
  · next a rest ha =>
    split at h
    · cases h
    · next r' inp hr => cases h; exact ⟨a, rest, inp, ha, hr, rfl⟩

/-- A one-byte read changes the answers and the input stream only. -/
theorem devRead1_frame {t : Config.Deadline} {s s' : State} {r : ReadResult Byte}
    (h : devRead1 t s = some (r, s')) : ∃ as inp, s' = { s with answers := as, devIn := inp } := by
  obtain ⟨a, rest, inp, -, -, rfl⟩ := devRead1_cases h
  exact ⟨rest, inp, rfl⟩

/-- A one-byte read that answers success takes the first byte, whatever its deadline (60_exceptions R333). -/
theorem devRead1_byte {t : Config.Deadline} {s : State} {a : DevAnswer} {rest : List DevAnswer} {b : Byte} {bs : Bytes}
    (ha : s.answers = a :: rest) (hs : a.status = .success) (hb : s.devIn = b :: bs) :
    devRead1 t s = some (.success b, { s with answers := rest, devIn := bs }) := by
  simp [devRead1, ha, read1, readable, readNow, hs, hb]

/-- A one-byte read with a positive deadline that answers Timeout takes nothing (60_exceptions R333). -/
theorem devRead1_timeout {t : Config.Deadline} {s : State} {a : DevAnswer} {rest : List DevAnswer}
    (ha : s.answers = a :: rest) (hs : a.status = .timeout) (ht : t ≠ some 0) :
    devRead1 t s = some (.timeout, { s with answers := rest }) := by
  simp [devRead1, ha, read1, hs, ht]

/-- All that a read of a drain can do (20_memory R72): it takes the oldest byte, or ends the drain, on an empty stream if the
device is open, or ends it with an error. A closed device may bring the byte itself (log 29). -/
theorem drainRead_cases {s s' : State} {r : ReadResult Byte} (h : drainRead s = some (r, s')) :
    ∃ a rest, s.answers = a :: rest ∧
      ((a.status = .error ∧ r = .error ∧ s' = { s with answers := rest, devIn := a.stream }) ∨
       (a.status ≠ .error ∧ r = .timeout ∧ (s.deviceOpen = true → s.devIn = []) ∧ s' = { s with answers := rest }) ∨
       (∃ b bs, a.status ≠ .error ∧ r = .success b ∧
         (s.devIn = b :: bs ∨ (s.deviceOpen = false ∧ s.devIn = [] ∧ bs = [])) ∧
         s' = { s with answers := rest, devIn := bs })) := by
  obtain ⟨a, rest, inp, ha, hr, rfl⟩ := devRead1_cases h
  refine ⟨a, rest, ha, ?_⟩
  rcases read1_cases hr with ⟨hs, rfl, rfl⟩ | ⟨rfl, rfl, hs, he, -⟩ | ⟨b, hs, rfl, hb⟩
  · exact .inl ⟨hs, rfl, rfl⟩
  · exact .inr (.inl ⟨hs, rfl, fun ho => he ho Config.tDrain_eq, rfl⟩)
  · exact .inr (.inr ⟨b, inp, hs, rfl, hb, rfl⟩)

/-- A read of a drain of an open device answers what the stream holds, whatever answer but an error has come (20_memory R67,
R72). -/
theorem drainRead_now {s : State} {a : DevAnswer} {rest : List DevAnswer} (ho : s.deviceOpen = true)
    (ha : s.answers = a :: rest) (hs : a.status ≠ .error) :
    drainRead s = some ((readNow s.devIn).1, { s with answers := rest, devIn := (readNow s.devIn).2 }) := by
  simp only [drainRead, devRead1, ha, read1, ho, readable_enough (.inl rfl), Config.tDrain_eq]
  cases h : a.status <;> first | rfl | exact absurd h hs

/-- A read of a drain that finds a byte takes it, of a closed device if it answers success. -/
theorem drainRead_byte {s : State} {a : DevAnswer} {rest : List DevAnswer} {b : Byte} {bs : Bytes}
    (ha : s.answers = a :: rest) (hs : a.status = .success ∨ s.deviceOpen = true ∧ a.status ≠ .error)
    (hb : s.devIn = b :: bs) : drainRead s = some (.success b, { s with answers := rest, devIn := bs }) := by
  rcases hs with hs | ⟨ho, hs⟩
  · exact devRead1_byte ha hs hb
  · rw [drainRead_now ho ha hs, hb]
    rfl

/-- A read of a drain that finds no byte ends the drain, of a closed device if it answers Timeout. -/
theorem drainRead_empty {s : State} {a : DevAnswer} {rest : List DevAnswer} (ha : s.answers = a :: rest)
    (hs : a.status = .timeout ∨ s.deviceOpen = true ∧ a.status ≠ .error) (hb : s.devIn = []) :
    drainRead s = some (.timeout, { s with answers := rest }) := by
  rcases hs with hs | ⟨ho, hs⟩
  · simp only [drainRead, devRead1, ha, read1, hs, hb, readNow, ite_self]
  · rw [drainRead_now ho ha hs, hb]
    simp only [readNow, ← hb]

/-- A closed device that answers Timeout ends a drain, whatever its stream holds (60_exceptions R332; log 29). -/
theorem drainRead_closed {s : State} {a : DevAnswer} {rest : List DevAnswer} (ha : s.answers = a :: rest)
    (hs : a.status = .timeout) (ho : s.deviceOpen = false) :
    drainRead s = some (.timeout, { s with answers := rest }) := by
  simp [drainRead, devRead1, ha, read1, hs, ho]

/-- All that a read of `n` bytes can do (60_exceptions R334). -/
theorem devReadN_cases {n : Nat} {t : Config.Deadline} {s s' : State} {r : ReadResult Bytes}
    (h : devReadN n t s = some (r, s')) :
    ∃ a rest, s.answers = a :: rest ∧
      ((a.status = .error ∧ r = .error ∧ s' = { s with answers := rest, devIn := a.stream }) ∨
       (r = .timeout ∧ s' = { s with answers := rest, devIn := s.devIn.drop a.count } ∧
          (a.status = .timeout ∨ (a.status = .success ∧ s.devIn.length < n ∧ t = some 0))) ∨
       (∃ bs, a.status = .success ∧ bs = readable s.deviceOpen n a s.devIn ∧ n ≤ bs.length ∧
          r = .success (bs.take n) ∧ s' = { s with answers := rest, devIn := bs.drop n })) := by
  unfold devReadN at h
  split at h
  · cases h
  · next a rest ha =>
    refine ⟨a, rest, ha, ?_⟩
    split at h
    · next hs => cases h; exact .inl ⟨hs, rfl, rfl⟩
    · next hs => cases h; exact .inr (.inl ⟨rfl, rfl, .inl hs⟩)
    · next hs =>
      dsimp only at h
      split at h
      · next hn => cases h; exact .inr (.inr ⟨_, hs, rfl, hn, rfl, rfl⟩)
      · next hn =>
        split at h
        · next ht =>
          have hl : s.devIn.length < n := by
            by_contra hc
            exact hn (by rw [readable_enough (.inr (Nat.le_of_not_lt hc))]; omega)
          cases h
          exact .inr (.inl ⟨rfl, rfl, .inr ⟨hs, hl, ht⟩⟩)
        · cases h

/-- A read of `n` bytes that answers success takes the first `n` bytes of a stream that holds them. -/
theorem devReadN_bytes {n : Nat} {t : Config.Deadline} {s : State} {a : DevAnswer} {rest : List DevAnswer}
    (ha : s.answers = a :: rest) (hs : a.status = .success) (hn : n ≤ s.devIn.length) :
    devReadN n t s = some (.success (s.devIn.take n), { s with answers := rest, devIn := s.devIn.drop n }) := by
  simp only [devReadN, ha, hs, readable_enough (.inr hn), hn, if_true]

/-- A read of `n` bytes changes the answers and the input stream only, and on success gives exactly `n` bytes. -/
theorem devReadN_frame {n : Nat} {t : Config.Deadline} {s s' : State} {r : ReadResult Bytes}
    (h : devReadN n t s = some (r, s')) :
    (∃ as inp, s' = { s with answers := as, devIn := inp }) ∧ ∀ bs, r = .success bs → bs.length = n := by
  obtain ⟨a, rest, -, h⟩ := devReadN_cases h
  rcases h with ⟨-, rfl, rfl⟩ | ⟨rfl, rfl, -⟩ | ⟨bs, -, -, hn, rfl, rfl⟩
  · exact ⟨⟨_, _, rfl⟩, fun _ h => by cases h⟩
  · exact ⟨⟨_, _, rfl⟩, fun _ h => by cases h⟩
  · exact ⟨⟨_, _, rfl⟩, fun bs h => by cases h; simpa using hn⟩

/-- All that a write can do (60_exceptions R335). -/
theorem devWrite_cases {bs : Bytes} {s s' : State} {r : DevStatus × Nat} (h : devWrite bs s = some (r, s')) :
    ∃ a rest, s.answers = a :: rest ∧ r = (a.status, min a.count bs.length) ∧
      s' = { s with answers := rest, devOut := s.devOut ++ bs.take (min a.count bs.length) } := by
  unfold devWrite at h
  split at h
  · cases h
  · next a rest ha => cases h; exact ⟨a, rest, ha, rfl, rfl⟩

/-- All that a poll can do (60_exceptions R336): it consumes no byte. -/
theorem devPoll_cases {t : Config.Deadline} {s s' : State} {r : DevStatus} (h : devPoll t s = some (r, s')) :
    ∃ a rest, s.answers = a :: rest ∧ r = a.status ∧ s' = { s with answers := rest } := by
  unfold devPoll at h
  split at h
  · cases h
  · next a rest ha => cases h; exact ⟨a, rest, ha, rfl, rfl⟩

/-- All that an open can do (60_exceptions R331). -/
theorem devOpen_cases {m : Nat} {s s' : State} (h : devOpen m s = some s') :
    ∃ a rest, s.answers = a :: rest ∧ s' = { s with answers := rest, deviceOpen := a.opened, devIn := a.stream } := by
  unfold devOpen at h
  split at h
  · cases h
  · next a rest ha => cases h; exact ⟨a, rest, ha, rfl⟩

/-- Acquiring the lock: granted exactly when the other engine does not own it (10_state R40). -/
theorem lockAcquire_cases {e : Engine} {s s' : State} (h : lockAcquire e s = some s') :
    (s.lockOwner = none ∨ s.lockOwner = some e) ∧ s' = { s with lockOwner := some e } := by
  unfold lockAcquire at h
  split at h
  · next ho => cases h; exact ⟨.inl ho, rfl⟩
  · next o ho =>
    split at h
    · next he => cases h; subst he; exact ⟨.inr ho, by cases s; simp_all⟩
    · cases h

/-- Waiting for the lock: the other engine owns it (10_state R40). -/
theorem lockAcquire_waits {e : Engine} {s : State} (h : lockAcquire e s = none) :
    ∃ o, o ≠ e ∧ s.lockOwner = some o := by
  unfold lockAcquire at h
  split at h
  · cases h
  · next o ho =>
    split at h
    · cases h
    · next he => exact ⟨o, he, ho⟩

/-! ### Shared actions of the engines -/

/-- All that `AnswerWait` can do: one byte is taken on success, of the stream or of a closed device, and none otherwise
(41_send_fsm R163; log 29). -/
theorem answerWait_cases {st : SendState} {s s' : State} (h : answerWait st s = .next s') :
    (devRead1 Config.tField s = none ∧ s' = s) ∨
      ∃ r as inp, s' = sendEmit st (classifyAnswer r) { s with answers := as, devIn := inp } ∧
        ((∃ b, r = .success b ∧ s.devIn = b :: inp) ∨ inp = s.devIn) := by
  unfold answerWait at h
  split at h
  · next hr => cases h; exact .inl ⟨hr, rfl⟩
  · next s1 hr =>
    obtain ⟨as, inp, rfl⟩ := devRead1_frame hr
    cases h
    exact .inr ⟨.error, as, s.devIn, rfl, .inr rfl⟩
  · next r s1 hx hr =>
    obtain ⟨a, rest, inp, -, hd, rfl⟩ := devRead1_cases hr
    cases h
    refine .inr ⟨r, rest, inp, rfl, ?_⟩
    rcases read1_cases hd with ⟨-, rfl, -⟩ | ⟨-, rfl, -⟩ | ⟨b, -, rfl, hb | ⟨-, he, rfl⟩⟩
    · exact absurd rfl hx
    · exact .inr rfl
    · exact .inl ⟨b, rfl, hb⟩
    · exact .inr he.symm

/-- All that a send-side write can do (60_exceptions R335). -/
theorem sendWrite_cases {st : SendState} {bs : Bytes} {s s' : State} (h : sendWrite st bs s = .next s') :
    (devWrite bs s = none ∧ s' = s) ∨
      ∃ r s1, devWrite bs s = some (r, s1) ∧ s' = sendEmit st (classifySendWrite bs.length r) s1 := by
  unfold sendWrite at h
  split at h
  · next hr => cases h; exact .inl ⟨hr, rfl⟩
  · next r s1 hr => cases h; exact .inr ⟨r, s1, hr, rfl⟩

/-- All that a receive-side write can do (60_exceptions R335). -/
theorem recvWrite_cases {st : RecvState} {b : Byte} {s s' : State} (h : recvWrite st b s = .next s') :
    (devWrite [b] s = none ∧ s' = s) ∨
      ∃ r s1, devWrite [b] s = some (r, s1) ∧ s' = recvEmit st (classifyRecvWrite 1 r) s1 := by
  unfold recvWrite at h
  split at h
  · next hr => cases h; exact .inl ⟨hr, rfl⟩
  · next r s1 hr => cases h; exact .inr ⟨r, s1, hr, rfl⟩

/-- All that a timed read of `n` bytes in a frame state can do (42_receive_fsm R204). -/
theorem fieldN_cases {st : RecvState} {n : Nat} {k : Bytes → State → State} {s s' : State}
    (h : fieldN st n k s = .next s') :
    s.rxf ≠ [] ∧
      ((devReadN n Config.tField s = none ∧ s' = s) ∨
       (∃ bs s1, devReadN n Config.tField s = some (.success bs, s1) ∧ s' = k bs (rxAppend bs s1)) ∨
       (∃ r s1, devReadN n Config.tField s = some (r, s1) ∧ (r = .timeout ∨ r = .error) ∧
          s' = recvEmit st .fail s1)) := by
  unfold fieldN at h
  split at h
  · cases h
  · next hne =>
    refine ⟨hne, ?_⟩
    split at h
    · next hr => cases h; exact .inl ⟨hr, rfl⟩
    · next bs s1 hr => cases h; exact .inr (.inl ⟨bs, s1, hr, rfl⟩)
    · next r s1 hx hr =>
      cases h
      refine .inr (.inr ⟨r, s1, hr, ?_, rfl⟩)
      cases r with
      | success a => exact absurd rfl (hx a)
      | timeout => exact .inl rfl
      | error => exact .inr rfl

/-- All that a timed one-byte read in a frame state can do (42_receive_fsm R204). -/
theorem field1_cases {st : RecvState} {k : Byte → State → State} {s s' : State} (h : field1 st k s = .next s') :
    s.rxf ≠ [] ∧
      ((devRead1 Config.tField s = none ∧ s' = s) ∨
       (∃ b s1, devRead1 Config.tField s = some (.success b, s1) ∧ s' = k b (rxAppend [b] s1)) ∨
       (∃ r s1, devRead1 Config.tField s = some (r, s1) ∧ (r = .timeout ∨ r = .error) ∧
          s' = recvEmit st .fail s1)) := by
  unfold field1 at h
  split at h
  · cases h
  · next hne =>
    refine ⟨hne, ?_⟩
    split at h
    · next hr => cases h; exact .inl ⟨hr, rfl⟩
    · next b s1 hr => cases h; exact .inr (.inl ⟨b, s1, hr, rfl⟩)
    · next r s1 hx hr =>
      cases h
      refine .inr (.inr ⟨r, s1, hr, ?_, rfl⟩)
      cases r with
      | success a => exact absurd rfl (hx a)
      | timeout => exact .inl rfl
      | error => exact .inr rfl

/-! ### Codec and host -/

/-- A build operation that answers writes its result and nothing else (40_frame_codec R144). -/
theorem buildResult_cases {r : Option (List Frame)} {s s' : State} (h : buildResult r s = .next s') :
    ∃ fs, r = some fs ∧ s' = { s with fcOut := .frames fs } := by
  cases r with
  | none => cases h
  | some fs => cases h; exact ⟨fs, rfl, rfl⟩

/-- A parse operation that answers writes its result and nothing else (40_frame_codec R144). -/
theorem parseResult_cases {r : Option Bytes} {s s' : State} (h : parseResult r s = .next s') :
    ∃ p, r = some p ∧ s' = { s with fcOut := .payload p } := by
  cases r with
  | none => cases h
  | some p => cases h; exact ⟨p, rfl, rfl⟩

/-- `buildFrames` asked by itself: only up to MAX_PAYLOAD (40_frame_codec R130, R133). -/
theorem execBuildFrames_cases {p : Bytes} {s s' : State} (h : execBuildFrames p s = .next s') :
    p.length ≤ Config.maxPayload ∧ ∃ fs, buildFrames p = some fs ∧ s' = { s with fcOut := .frames fs } := by
  unfold execBuildFrames at h
  split at h
  · next hl => exact ⟨hl, buildResult_cases h⟩
  · cases h

/-- A request to the codec writes its result and nothing else (40_frame_codec R144). -/
theorem exec_codec_cases {r : CodecRequest} {s s' : State} (h : exec (codecInstr r) s = .next s') :
    ∃ o, s' = { s with fcOut := o } := by
  cases r with
  | buildFrames p => obtain ⟨-, fs, -, rfl⟩ := execBuildFrames_cases h; exact ⟨_, rfl⟩
  | buildRegular p => cases h; exact ⟨_, rfl⟩
  | buildExtended p => cases h; exact ⟨_, rfl⟩
  | buildDivided p => obtain ⟨fs, -, rfl⟩ := buildResult_cases h; exact ⟨_, rfl⟩
  | parseFrames fs => obtain ⟨p, -, rfl⟩ := parseResult_cases h; exact ⟨_, rfl⟩
  | parseRegular f => obtain ⟨p, -, rfl⟩ := parseResult_cases h; exact ⟨_, rfl⟩
  | parseExtended f => obtain ⟨p, -, rfl⟩ := parseResult_cases h; exact ⟨_, rfl⟩
  | parseDivided fs => obtain ⟨p, -, rfl⟩ := parseResult_cases h; exact ⟨_, rfl⟩

/-- All that collecting a result can do (43_orchestrator R269; log 19). -/
theorem collect_cases (k : Nat) (s : State) :
    (s.returns[k]? = none ∧ collect k s = s) ∨
      ∃ r, s.returns[k]? = some r ∧
        collect k s = { s with returns := s.returns.eraseIdx k, hostOut := s.hostOut ++ [r] } := by
  unfold collect
  split
  · next r hr => exact .inr ⟨r, hr, rfl⟩
  · next hr => exact .inl ⟨hr, rfl⟩

/-- All that `send` can do (43_orchestrator R262, R263, R268). -/
theorem execSend_cases {p : Bytes} {s s' : State} (h : execSend p s = .next s') :
    s.constructed = true ∧ Config.hdr ≤ p.length ∧ p.length ≤ Config.maxPayload ∧ ∃ fs, buildFrames p = some fs ∧
      ((s.sRun = true ∧ s' = { s with heldSends := s.heldSends ++ [p] }) ∨
       (s.sRun = false ∧ s' = startSend p fs s)) := by
  unfold execSend at h
  split at h
  · next hc =>
    split at h
    · cases h
    · next hl =>
      obtain ⟨h1, h2⟩ := not_or.mp hl
      split at h
      · cases h
      · next fs hfs =>
        refine ⟨hc, Nat.le_of_not_lt h1, Nat.le_of_not_lt h2, fs, hfs, ?_⟩
        split at h
        · next hr => cases h; exact .inl ⟨hr, rfl⟩
        · next hr => cases h; exact .inr ⟨by simpa using hr, rfl⟩
  · cases h

/-- All that `receive` can do (43_orchestrator R264, R268). -/
theorem execReceive_cases {s s' : State} (h : execReceive s = .next s') :
    s.constructed = true ∧
      ((s.rRun = true ∧ s' = { s with heldReceives := s.heldReceives + 1 }) ∨
       (s.rRun = false ∧ s' = startReceive s)) := by
  unfold execReceive at h
  split at h
  · next hc =>
    refine ⟨hc, ?_⟩
    split at h
    · next hr => cases h; exact .inl ⟨hr, rfl⟩
    · next hr => cases h; exact .inr ⟨by simpa using hr, rfl⟩
  · cases h

/-- All that `construct` can do (43_orchestrator R261). -/
theorem execConstruct_cases {s s' : State} (h : execConstruct s = .next s') :
    callInProgress s = false ∧
      ((devOpen Config.openMode s = none ∧ s' = s) ∨
       ∃ s1, devOpen Config.openMode s = some s1 ∧ s' = respond .constructed (freshTransport s1)) := by
  unfold execConstruct at h
  split at h
  · cases h
  · next hc =>
    refine ⟨by simpa using hc, ?_⟩
    split at h
    · next hr => cases h; exact .inl ⟨hr, rfl⟩
    · next s1 hr => cases h; exact .inr ⟨s1, hr, rfl⟩

/-- All that `destruct` can do (43_orchestrator R266). -/
theorem execDestruct_cases {s s' : State} (h : execDestruct s = .next s') :
    s.constructed = true ∧ callInProgress s = false ∧
      s' = respond .destructed { devClose s with constructed := false } := by
  unfold execDestruct at h
  split at h
  · next hc =>
    split at h
    · cases h
    · next hr => cases h; exact ⟨hc, by simpa using hr, rfl⟩
  · cases h

/-- All that reading the counters can do (43_orchestrator R267). -/
theorem execReadCounters_cases {s s' : State} (h : execReadCounters s = .next s') :
    s.constructed = true ∧ s' = respond (.counters s.r1 (visibleR2 s)) s := by
  unfold execReadCounters at h
  split at h
  · next hc => cases h; exact ⟨hc, rfl⟩
  · cases h

/-- All that receive `end` can do (42_receive_fsm R224, 43_orchestrator R264). -/
theorem execREnd_cases {s s' : State} (h : execREnd s = .next s') :
    (s.rxOk = true ∧ ∃ p, parseFrames s.rxf = some p ∧
      s' = callReturns (.receiveResult true (some p)) { endReceive (lockRelease .recv s) with rxPayload := some p }) ∨
    (s.rxOk = false ∧
      s' = callReturns (.receiveResult false none) { endReceive (lockRelease .recv s) with rxPayload := none }) := by
  unfold execREnd at h
  simp only at h
  split at h
  · next ho =>
    split at h
    · next p hp => cases h; exact .inl ⟨ho, p, hp, rfl⟩
    · cases h
  · next ho => cases h; exact .inr ⟨by simpa using ho, rfl⟩

end Sys2Proof.Machine
end

