-- ==== Sys2Proof/Laws/PerInstr.lean ====
section
/-! SUPPORT. Facts about the encoding of every instruction, one lemma per constructor. -/

namespace Sys2Proof.Laws

/-- A wire unit is at least one byte and at most the longest divided frame (30_encoding R90, R104); an instruction
that is no wire unit has no bytes on the wire. -/
def UnitLength.Statement (i : Instr) : Prop :=
  ∀ ctx bs, i.wellFormed = true → encode i = .wire ctx bs → 1 ≤ bs.length ∧ bs.length ≤ longestUnit

/-- The length of a regular frame: LEN + 2 bytes (30_encoding R98). -/
theorem encodeReg_length (cmd sub cb : Byte) (data : Bytes) (cs : Byte) :
    (encodeReg cmd sub cb data cs).length = data.length + 7 := by
  simp [encodeReg]

/-- The length of an undivided extended frame: EXTLEN + 5 bytes (30_encoding R100). -/
theorem encodeExt_length (cmd sub cb : Byte) (data : Bytes) (cs : Byte) :
    (encodeExt cmd sub cb data cs).length = data.length + 10 := by
  simp [encodeExt, Machine.be24]

/-- The length of a divided frame: EXTLEN + 2 bytes (30_encoding R102). -/
theorem encodeDiv_length (cmd sub cb : Byte) (no cnt : BitVec 16) (chunk : Bytes) (cs : Byte) :
    (encodeDiv cmd sub cb no cnt chunk cs).length = chunk.length + 14 := by
  simp [encodeDiv, Machine.be24, Machine.be16]

theorem UnitLength.enq : UnitLength.Statement .enq := by
  intro ctx bs _ he
  cases he
  exact ⟨by decide, by decide⟩

theorem UnitLength.ack : UnitLength.Statement .ack := by
  intro ctx bs _ he
  cases he
  exact ⟨by decide, by decide⟩

theorem UnitLength.nak : UnitLength.Statement .nak := by
  intro ctx bs _ he
  cases he
  exact ⟨by decide, by decide⟩

theorem UnitLength.stx : UnitLength.Statement .stx := by
  intro ctx bs _ he
  cases he
  exact ⟨by decide, by decide⟩

theorem UnitLength.etx : UnitLength.Statement .etx := by
  intro ctx bs _ he
  cases he
  exact ⟨by decide, by decide⟩

theorem UnitLength.extLen : UnitLength.Statement .extLen := by
  intro ctx bs _ he
  cases he
  exact ⟨by decide, by decide⟩

theorem UnitLength.frameReg (cmd sub cb : Byte) (data : Bytes) (cs : Byte) : UnitLength.Statement (.frameReg cmd sub cb data cs) := by
  intro ctx bs hw he
  cases he
  simp [Instr.wellFormed] at hw
  rw [encodeReg_length]
  simp only [longestUnit, Config.chunkMax_eq]
  omega

theorem UnitLength.frameExt (cmd sub cb : Byte) (data : Bytes) (cs : Byte) : UnitLength.Statement (.frameExt cmd sub cb data cs) := by
  intro ctx bs hw he
  cases he
  simp [Instr.wellFormed] at hw
  rw [encodeExt_length]
  simp only [longestUnit, Config.chunkMax_eq]
  omega

theorem UnitLength.frameDivMore (cmd sub cb : Byte) (frameNo frameCount : BitVec 16) (chunk : Bytes) (cs : Byte) : UnitLength.Statement (.frameDivMore cmd sub cb frameNo frameCount chunk cs) := by
  intro ctx bs hw he
  cases he
  simp only [Instr.wellFormed, Bool.and_eq_true, decide_eq_true_eq] at hw
  rw [encodeDiv_length]
  exact ⟨by omega, Nat.add_le_add_right hw.1 14⟩

theorem UnitLength.frameDivLast (cmd sub cb : Byte) (frameNo frameCount : BitVec 16) (chunk : Bytes) (cs : Byte) : UnitLength.Statement (.frameDivLast cmd sub cb frameNo frameCount chunk cs) := by
  intro ctx bs hw he
  cases he
  simp only [Instr.wellFormed, Bool.and_eq_true, decide_eq_true_eq] at hw
  rw [encodeDiv_length]
  exact ⟨by omega, Nat.add_le_add_right hw.1 14⟩

theorem UnitLength.sIdle : UnitLength.Statement .sIdle := by
  intro ctx bs _ he
  cases he

theorem UnitLength.sEnquiry : UnitLength.Statement .sEnquiry := by
  intro ctx bs _ he
  cases he

theorem UnitLength.sReenquiry : UnitLength.Statement .sReenquiry := by
  intro ctx bs _ he
  cases he

theorem UnitLength.sAck : UnitLength.Statement .sAck := by
  intro ctx bs _ he
  cases he

theorem UnitLength.sFrame : UnitLength.Statement .sFrame := by
  intro ctx bs _ he
  cases he

theorem UnitLength.sAck2 : UnitLength.Statement .sAck2 := by
  intro ctx bs _ he
  cases he

theorem UnitLength.sRetry : UnitLength.Statement .sRetry := by
  intro ctx bs _ he
  cases he

theorem UnitLength.sNak : UnitLength.Statement .sNak := by
  intro ctx bs _ he
  cases he

theorem UnitLength.sWait : UnitLength.Statement .sWait := by
  intro ctx bs _ he
  cases he

theorem UnitLength.sDone : UnitLength.Statement .sDone := by
  intro ctx bs _ he
  cases he

theorem UnitLength.sError : UnitLength.Statement .sError := by
  intro ctx bs _ he
  cases he

theorem UnitLength.sEnd : UnitLength.Statement .sEnd := by
  intro ctx bs _ he
  cases he

theorem UnitLength.rIdle : UnitLength.Statement .rIdle := by
  intro ctx bs _ he
  cases he

theorem UnitLength.rPoll : UnitLength.Statement .rPoll := by
  intro ctx bs _ he
  cases he

theorem UnitLength.rRepoll : UnitLength.Statement .rRepoll := by
  intro ctx bs _ he
  cases he

theorem UnitLength.rEnquiry : UnitLength.Statement .rEnquiry := by
  intro ctx bs _ he
  cases he

theorem UnitLength.rAck : UnitLength.Statement .rAck := by
  intro ctx bs _ he
  cases he

theorem UnitLength.rStx : UnitLength.Statement .rStx := by
  intro ctx bs _ he
  cases he

theorem UnitLength.rLen : UnitLength.Statement .rLen := by
  intro ctx bs _ he
  cases he

theorem UnitLength.rDatacmd : UnitLength.Statement .rDatacmd := by
  intro ctx bs _ he
  cases he

theorem UnitLength.rDataextlen : UnitLength.Statement .rDataextlen := by
  intro ctx bs _ he
  cases he

theorem UnitLength.rDataframenumber : UnitLength.Statement .rDataframenumber := by
  intro ctx bs _ he
  cases he

theorem UnitLength.rData : UnitLength.Statement .rData := by
  intro ctx bs _ he
  cases he

theorem UnitLength.rEtx : UnitLength.Statement .rEtx := by
  intro ctx bs _ he
  cases he

theorem UnitLength.rCs : UnitLength.Statement .rCs := by
  intro ctx bs _ he
  cases he

theorem UnitLength.rAck2 : UnitLength.Statement .rAck2 := by
  intro ctx bs _ he
  cases he

theorem UnitLength.rNak : UnitLength.Statement .rNak := by
  intro ctx bs _ he
  cases he

theorem UnitLength.rRetry : UnitLength.Statement .rRetry := by
  intro ctx bs _ he
  cases he

theorem UnitLength.rDone : UnitLength.Statement .rDone := by
  intro ctx bs _ he
  cases he

theorem UnitLength.rError : UnitLength.Statement .rError := by
  intro ctx bs _ he
  cases he

theorem UnitLength.rEnd : UnitLength.Statement .rEnd := by
  intro ctx bs _ he
  cases he

theorem UnitLength.buildFrames (payload : Bytes) : UnitLength.Statement (.buildFrames payload) := by
  intro ctx bs _ he
  cases he

theorem UnitLength.buildRegular (payload : Bytes) : UnitLength.Statement (.buildRegular payload) := by
  intro ctx bs _ he
  cases he

theorem UnitLength.buildExtended (payload : Bytes) : UnitLength.Statement (.buildExtended payload) := by
  intro ctx bs _ he
  cases he

theorem UnitLength.buildDivided (payload : Bytes) : UnitLength.Statement (.buildDivided payload) := by
  intro ctx bs _ he
  cases he

theorem UnitLength.parseFrames (frames : List Frame) : UnitLength.Statement (.parseFrames frames) := by
  intro ctx bs _ he
  cases he

theorem UnitLength.parseRegular (frame : Frame) : UnitLength.Statement (.parseRegular frame) := by
  intro ctx bs _ he
  cases he

theorem UnitLength.parseExtended (frame : Frame) : UnitLength.Statement (.parseExtended frame) := by
  intro ctx bs _ he
  cases he

theorem UnitLength.parseDivided (frames : List Frame) : UnitLength.Statement (.parseDivided frames) := by
  intro ctx bs _ he
  cases he

theorem UnitLength.construct : UnitLength.Statement .construct := by
  intro ctx bs _ he
  cases he

theorem UnitLength.send (payload : Bytes) : UnitLength.Statement (.send payload) := by
  intro ctx bs _ he
  cases he

theorem UnitLength.receive : UnitLength.Statement .receive := by
  intro ctx bs _ he
  cases he

theorem UnitLength.destruct : UnitLength.Statement .destruct := by
  intro ctx bs _ he
  cases he

theorem UnitLength.readCounters : UnitLength.Statement .readCounters := by
  intro ctx bs _ he
  cases he

end Sys2Proof.Laws
end

