-- ==== Sys2Proof/Laws/Step.lean ====
section
/-! SUPPORT. What one step can do, said once (43_orchestrator R269), and what the decoder makes of an engine's state
register. -/

namespace Sys2Proof.Machine

/-- The ordinal of a send state decodes to its action (10_state R21, R25). -/
@[simp] theorem decode_sendOrdinal (st : SendState) : decode (.sendState (sendOrdinal st)) = .ok (sendInstr st) := by
  cases st <;> rfl

/-- The ordinal of a receive state decodes to its action (10_state R22, R25). -/
@[simp] theorem decode_recvOrdinal (st : RecvState) : decode (.recvState (recvOrdinal st)) = .ok (recvInstr st) := by
  cases st <;> rfl

/-- The instructions a wire unit can decode to. -/
def Instr.isWire : Instr → Bool
  | .enq | .ack | .nak | .stx | .etx | .extLen => true
  | .frameReg .. | .frameExt .. | .frameDivMore .. | .frameDivLast .. => true
  | _ => false

/-- A regular frame decodes to a wire unit. -/
theorem decodeRegular_isWire {b : Byte} {bs rest : Bytes} {i : Instr} (h : decodeRegular b bs = .ok (i, rest)) :
    Instr.isWire i = true := by
  unfold decodeRegular at h
  split at h
  · split at h
    · cases h; rfl
    · cases h
  · cases h

/-- A divided frame decodes to a wire unit. -/
theorem decodeDivided_isWire {cmd sub cb : Byte} {v : Nat} {bs rest : Bytes} {i : Instr}
    (h : decodeDivided cmd sub cb v bs = .ok (i, rest)) : Instr.isWire i = true := by
  unfold decodeDivided at h
  split at h
  · cases h
  · split at h
    · split at h
      · split at h
        · cases h; rfl
        · split at h <;> cases h
          rfl
      · cases h
    · cases h

/-- An undivided extended frame decodes to a wire unit. -/
theorem decodeUndivided_isWire {cmd sub cb : Byte} {v : Nat} {bs rest : Bytes} {i : Instr}
    (h : decodeUndivided cmd sub cb v bs = .ok (i, rest)) : Instr.isWire i = true := by
  unfold decodeUndivided at h
  split at h
  · cases h
  · split at h
    · cases h; rfl
    · cases h

/-- A wire unit decodes to one of the ten wire rows of the table and to nothing else. -/
theorem decodeUnit_isWire {ctx : WireContext} {bs rest : Bytes} {i : Instr} (h : decodeUnit ctx bs = .ok (i, rest)) :
    Instr.isWire i = true := by
  cases ctx with
  | answer =>
    simp only [decodeUnit, decodeAnswer] at h
    split at h
    · cases h
    · split at h
      · cases h; rfl
      · split at h
        · cases h; rfl
        · split at h <;> cases h
          rfl
  | delimiter =>
    simp only [decodeUnit, decodeDelimiter] at h
    split at h
    · cases h
    · split at h
      · cases h; rfl
      · split at h
        · cases h; rfl
        · split at h <;> cases h
          rfl
  | frame mid =>
    simp only [decodeUnit, decodeFrame] at h
    split at h
    · cases h
    · split at h
      · split at h
        · cases h
        · split at h
          · unfold decodeExtended at h
            split at h
            · dsimp only at h
              split at h
              · exact decodeDivided_isWire h
              · exact decodeUndivided_isWire h
            · cases h
          · split at h
            · exact decodeRegular_isWire h
            · cases h
      · cases h

/-- A wire unit that decodes is one of the ten wire rows of the table. -/
theorem decode_wire_isWire {ctx : WireContext} {bs : Bytes} {i : Instr} (h : decode (.wire ctx bs) = .ok i) :
    Instr.isWire i = true := by
  simp only [decode] at h
  split at h
  · next i' hd => cases h; exact decodeUnit_isWire hd
  · cases h
  · cases h

/-- A wire unit only adds bytes to the input stream (log 4). -/
theorem exec_isWire {i : Instr} (hi : Instr.isWire i = true) (s : State) :
    ∃ bs, exec i s = .next (arrive bs s) := by
  cases i <;> first | (cases hi; done) | exact ⟨_, rfl⟩

/-- What one step can do, by the kind of turn. -/
inductive StepKind (s s' : State) : Prop where
  /-- Nobody's turn: nothing moves. -/
  | idle (h : s.turns = []) (eq : s' = s)
  /-- Bytes arrive from the environment or as a wire unit. -/
  | arrives (rest : List Turn) (bs : Bytes) (t : Turn) (h : s.turns = t :: rest)
      (eq : s' = arrive bs { s with turns := rest })
  /-- The peer takes bytes. -/
  | delivers (rest : List Turn) (n : Nat) (h : s.turns = .deliver n :: rest)
      (eq : s' = { s with turns := rest, devOut := s.devOut.drop n })
  /-- The host collects a result. -/
  | collects (rest : List Turn) (k : Nat) (h : s.turns = .collect k :: rest)
      (eq : s' = collect k { s with turns := rest })
  /-- A turn that finds nothing to do: an engine that is not running, a request that is not held or whose engine runs. -/
  | passes (rest : List Turn) (t : Turn) (h : s.turns = t :: rest) (eq : s' = { s with turns := rest })
  /-- The send engine does the next primitive of its action. -/
  | send (rest : List Turn) (h : s.turns = .engine .send :: rest) (run : s.sRun = true)
      (eq : exec (sendInstr s.sState) { s with turns := rest } = .next s')
  /-- The receive engine does the next primitive of its action. -/
  | recv (rest : List Turn) (h : s.turns = .engine .recv :: rest) (run : s.rRun = true)
      (eq : exec (recvInstr s.rState) { s with turns := rest } = .next s')
  /-- The codec is asked by itself. -/
  | codec (rest : List Turn) (r : CodecRequest) (h : s.turns = .codec r :: rest)
      (eq : exec (codecInstr r) { s with turns := rest } = .next s')
  /-- The host presents a request. -/
  | host (rest : List Turn) (r : HostRequest) (h : s.turns = .host r :: rest)
      (eq : exec (hostInstr r) { s with turns := rest } = .next s')
  /-- A held `send` request is taken. -/
  | heldSend (rest : List Turn) (k : Nat) (p : Bytes) (h : s.turns = .heldSend k :: rest)
      (free : s.sRun = false) (held : s.heldSends[k]? = some p)
      (eq : exec (.send p) { s with turns := rest, heldSends := s.heldSends.eraseIdx k } = .next s')
  /-- A held `receive` request is taken. -/
  | heldReceive (rest : List Turn) (n : Nat) (h : s.turns = .heldReceive :: rest)
      (free : s.rRun = false) (held : s.heldReceives = n + 1)
      (eq : exec .receive { s with turns := rest, heldReceives := n } = .next s')

/-- Every step that answers a next state is of one of these kinds. -/
theorem step_cases {s s' : State} (h : step s = .next s') : StepKind s s' := by
  unfold step at h
  split at h
  · next ht => cases h; exact .idle ht rfl
  · next t rest ht =>
    cases t with
    | engine e =>
      cases e with
      | send =>
        by_cases hr : s.sRun = true
        · have hf : fetch (.engine .send) { s with turns := rest } =
              some (.sendState (sendOrdinal s.sState), { s with turns := rest }) := if_pos hr
          simp only [hf, decode_sendOrdinal] at h
          exact .send rest ht hr h
        · have hf : fetch (.engine .send) { s with turns := rest } = none := if_neg hr
          simp only [hf, environment] at h
          cases h
          exact .passes rest _ ht rfl
      | recv =>
        by_cases hr : s.rRun = true
        · have hf : fetch (.engine .recv) { s with turns := rest } =
              some (.recvState (recvOrdinal s.rState), { s with turns := rest }) := if_pos hr
          simp only [hf, decode_recvOrdinal] at h
          exact .recv rest ht hr h
        · have hf : fetch (.engine .recv) { s with turns := rest } = none := if_neg hr
          simp only [hf, environment] at h
          cases h
          exact .passes rest _ ht rfl
    | unit ctx bs =>
      simp only [fetch] at h
      split at h
      · next i hd =>
        obtain ⟨bs', he⟩ := exec_isWire (decode_wire_isWire hd) { s with turns := rest }
        rw [he] at h
        cases h
        exact .arrives rest bs' _ ht rfl
      · cases h
    | codec r => exact .codec rest r ht h
    | host r => exact .host rest r ht h
    | heldSend k =>
      simp only [fetch] at h
      split at h
      · next hf =>
        cases h
        exact .passes rest _ ht rfl
      · next c s1 hf =>
        split at hf
        · next p hr hp => cases hf; exact .heldSend rest k p ht hr hp h
        · cases hf
    | heldReceive =>
      simp only [fetch] at h
      split at h
      · next hf => cases h; exact .passes rest _ ht rfl
      · next c s1 hf =>
        split at hf
        · next n hr hn => cases hf; exact .heldReceive rest n ht hr hn h
        · cases hf
    | arrive bs => cases h; exact .arrives rest bs _ ht rfl
    | deliver n => cases h; exact .delivers rest n ht rfl
    | collect k => cases h; exact .collects rest k ht rfl

end Sys2Proof.Machine
end

