-- ==== Sys2Proof/Laws/Recv.lean ====
section
/-! SUPPORT. What a turn of the receive engine can do, said once for all nineteen states (42_receive_fsm R205 to
R224), with the device's part left abstract: which answers, which input and which output it leaves. -/

namespace Sys2Proof.Machine

/-- The receive states whose action may be device calls and an event, with no register of its own: those that write,
those that drain, and every frame state when its read fails. -/
def recvPlain : RecvState → Event → Bool
  | .enquiry, .fail => true
  | .ack, _ | .ack2, _ | .nak, _ => true
  | .stx, .fail | .len, .fail | .datacmd, .fail | .dataextlen, .fail | .dataframenumber, .fail | .data, .fail
  | .etx, .fail | .cs, .fail => true
  | .cs, .deny => true
  | _, _ => false

/-- The receive states in which the engine can spend a turn waiting, for the lock or in a device call. -/
def recvCanWait : RecvState → Bool
  | .idle | .repoll | .retry | .done | .error | .end_ => false
  | _ => true

/-- What a turn of the receive engine can do to the state `s` it begins in. -/
inductive RecvMove (s : State) : State → Prop where
  /-- The action waits for the lock or in a device call. -/
  | waits (can : recvCanWait s.rState = true) : RecvMove s s
  /-- Device calls and an event. -/
  | emits (rs : RecvState) (ev : Event) (as : List DevAnswer) (inp out : Bytes) (st : s.rState = rs)
      (plain : recvPlain rs ev = true) (can : ev ∈ recvCanEmit rs) :
      RecvMove s (recvEmit rs ev { s with answers := as, devIn := inp, devOut := out })
  | idle (st : s.rState = .idle) : RecvMove s (recvEmit .idle .pass { s with r1 := 0 })
  /-- `poll` has seen the device readable; the lock is next. -/
  | pollReadable (as : List DevAnswer) (st : s.rState = .poll) (ph : s.rPhase ≠ .lock) :
      RecvMove s { s with answers := as, rPhase := .lock }
  /-- `poll` has met a failure. -/
  | pollFail (as : List DevAnswer) (st : s.rState = .poll) (ph : s.rPhase ≠ .lock) :
      RecvMove s (recvEmit .poll .fail { s with answers := as })
  | pollPass (st : s.rState = .poll) (ph : s.rPhase = .lock)
      (free : s.lockOwner = none ∨ s.lockOwner = some .recv) :
      RecvMove s (recvEmit .poll .pass { s with lockOwner := some .recv })
  /-- A read of the drain of `enquiry` that gives a byte, of the stream or of a closed device (log 29). -/
  | drains (as : List DevAnswer) (b : Byte) (inp : Bytes) (st : s.rState = .enquiry)
      (take : s.devIn = b :: inp ∨ (s.deviceOpen = false ∧ s.devIn = [] ∧ inp = [])) :
      RecvMove s { s with answers := as, devIn := inp, rPhase := .drained b }
  /-- The read that ends the drain of `enquiry`, on an empty stream if the device is open (20_memory R72; log 29). -/
  | drained (as : List DevAnswer) (st : s.rState = .enquiry) (empty : s.deviceOpen = true → s.devIn = []) :
      RecvMove s (recvEmit .enquiry (classifyDrain (drainSoFar s.rPhase)) { s with answers := as })
  | repoll (st : s.rState = .repoll) : RecvMove s (recvEmit .repoll .pass (lockRelease .recv s))
  | stx (as : List DevAnswer) (inp : Bytes) (b : Byte) (st : s.rState = .stx) (ne : s.rxf ≠ []) :
      RecvMove s (recvEmit .stx (classifyExpected Config.STX b)
        (rxAppend [b] { s with answers := as, devIn := inp }))
  | len (as : List DevAnswer) (inp : Bytes) (b : Byte) (st : s.rState = .len) (ne : s.rxf ≠ []) :
      RecvMove s (lenByte b (rxAppend [b] { s with answers := as, devIn := inp }))
  | datacmd (as : List DevAnswer) (inp bs : Bytes) (st : s.rState = .datacmd) (ne : s.rxf ≠ [])
      (n : bs.length = 3) :
      RecvMove s (recvEmit .datacmd .pass (rxAppend bs { s with answers := as, devIn := inp }))
  | extlenSkip (st : s.rState = .dataextlen) (sh : s.rxShape = .regular) :
      RecvMove s (recvEmit .dataextlen .pass s)
  | extlen (as : List DevAnswer) (inp bs : Bytes) (st : s.rState = .dataextlen) (ne : s.rxf ≠ [])
      (sh : s.rxShape ≠ .regular) (n : bs.length = 3) :
      RecvMove s (extLenBytes bs (rxAppend bs { s with answers := as, devIn := inp }))
  | numberSkip (st : s.rState = .dataframenumber) (sh : s.rxShape ≠ .divided) :
      RecvMove s (recvEmit .dataframenumber .pass s)
  | number (as : List DevAnswer) (inp bs : Bytes) (st : s.rState = .dataframenumber) (ne : s.rxf ≠ [])
      (sh : s.rxShape = .divided) (n : bs.length = 4) :
      RecvMove s (frameNumberBytes bs (rxAppend bs { s with answers := as, devIn := inp }))
  | dataNone (st : s.rState = .data) (n : rxDataCount s = some 0) : RecvMove s (recvEmit .data .pass s)
  | data (as : List DevAnswer) (inp bs : Bytes) (st : s.rState = .data) (ne : s.rxf ≠ [])
      (n : rxDataCount s = some bs.length) :
      RecvMove s (recvEmit .data .pass (rxAppend bs { s with answers := as, devIn := inp }))
  | etx (as : List DevAnswer) (inp : Bytes) (b : Byte) (st : s.rState = .etx) (ne : s.rxf ≠ []) :
      RecvMove s (recvEmit .etx (classifyExpected Config.ETX b)
        (rxAppend [b] { s with answers := as, devIn := inp }))
  | cs (as : List DevAnswer) (inp : Bytes) (b : Byte) (st : s.rState = .cs) (ne : s.rxf ≠ []) :
      RecvMove s (recvEmit .cs (classifyExpected (Config.checksum (rxBody s)) b)
        (rxAppend [b] { s with answers := as, devIn := inp }))
  | retryPass (st : s.rState = .retry) (ne : s.rxf ≠ []) (lt : s.r1.toNat + 1 < Config.recvRetryLimit) :
      RecvMove s (recvEmit .retry .pass { rxClear s with r1 := s.r1 + 1, rxShape := .none })
  | retryFail (st : s.rState = .retry) (ne : s.rxf ≠ []) (ge : Config.recvRetryLimit ≤ s.r1.toNat + 1) :
      RecvMove s (recvEmit .retry .fail { rxClear s with r1 := s.r1 + 1, rxShape := .none })
  | doneMore (st : s.rState = .done) (more : s.moreDivided = true) :
      RecvMove s (recvEmit .done .wait { rxNewBuffer s with rxShape := .none })
  | doneLast (st : s.rState = .done) (more : s.moreDivided = false) :
      RecvMove s (recvEmit .done .pass { s with rxOk := true })
  | error (st : s.rState = .error) : RecvMove s (recvEmit .error .pass { s with rxOk := false })
  | endOk (p : Bytes) (st : s.rState = .end_) (ok : s.rxOk = true) (parse : parseFrames s.rxf = some p) :
      RecvMove s (callReturns (.receiveResult true (some p))
        { endReceive (lockRelease .recv s) with rxPayload := some p })
  | endFail (st : s.rState = .end_) (ok : s.rxOk = false) :
      RecvMove s (callReturns (.receiveResult false none) { endReceive (lockRelease .recv s) with rxPayload := none })

/-- The event of a receive-side write is `Pass` or `Fail` (42_receive_fsm R225). -/
theorem classifyRecvWrite_mem (n : Nat) (r : DevStatus × Nat) :
    classifyRecvWrite n r = .pass ∨ classifyRecvWrite n r = .fail := by
  obtain ⟨st, k⟩ := r
  cases st <;> simp only [classifyRecvWrite]
  · split <;> simp
  · simp
  · simp

/-- The event of the last drained byte is one of the four of 42_receive_fsm R208. -/
theorem classifyDrain_mem (r : DrainResult) : classifyDrain r ∈ recvCanEmit .enquiry := by
  cases r with
  | last b => simp only [classifyDrain, recvCanEmit]; split <;> [simp; (split <;> simp)]
  | empty => decide
  | error => decide

/-- A write is a move. -/
theorem recvWrite_move {s s' : State} {b : Byte} {rs : RecvState} (hst : s.rState = rs)
    (hw : recvCanWait rs = true)
    (hp : ∀ ev, recvPlain rs ev = true) (hc : ∀ ev, ev = .pass ∨ ev = .fail → ev ∈ recvCanEmit rs)
    (h : recvWrite rs b s = .next s') :
    RecvMove s s' := by
  rcases recvWrite_cases h with ⟨-, rfl⟩ | ⟨r, s1, hd, rfl⟩
  · exact .waits (hst ▸ hw)
  · obtain ⟨a, rest, -, -, rfl⟩ := devWrite_cases hd
    exact .emits _ _ rest s.devIn _ hst (hp _) (hc _ (classifyRecvWrite_mem _ _))

/-- A one-byte field is a move. -/
theorem field1_move {s s' : State} {k : Byte → State → State} {rs : RecvState} (hst : s.rState = rs)
    (hw : recvCanWait rs = true) (hp : recvPlain rs .fail = true) (hc : Event.fail ∈ recvCanEmit rs)
    (hk : ∀ as inp b, s.rxf ≠ [] → RecvMove s (k b (rxAppend [b] { s with answers := as, devIn := inp })))
    (h : field1 rs k s = .next s') : RecvMove s s' := by
  obtain ⟨hne, ⟨-, rfl⟩ | ⟨b, s1, hd, rfl⟩ | ⟨r, s1, hd, -, rfl⟩⟩ := field1_cases h
  · exact .waits (hst ▸ hw)
  · obtain ⟨as, inp, rfl⟩ := devRead1_frame hd; exact hk as inp b hne
  · obtain ⟨as, inp, rfl⟩ := devRead1_frame hd; exact .emits _ .fail as inp s.devOut hst hp hc

/-- A field of `n` bytes is a move. -/
theorem fieldN_move {s s' : State} {n : Nat} {k : Bytes → State → State} {rs : RecvState} (hst : s.rState = rs)
    (hw : recvCanWait rs = true) (hp : recvPlain rs .fail = true) (hc : Event.fail ∈ recvCanEmit rs)
    (hk : ∀ as inp bs, s.rxf ≠ [] → bs.length = n →
      RecvMove s (k bs (rxAppend bs { s with answers := as, devIn := inp })))
    (h : fieldN rs n k s = .next s') : RecvMove s s' := by
  obtain ⟨hne, ⟨-, rfl⟩ | ⟨bs, s1, hd, rfl⟩ | ⟨r, s1, hd, -, rfl⟩⟩ := fieldN_cases h
  · exact .waits (hst ▸ hw)
  · obtain ⟨⟨as, inp, rfl⟩, hl⟩ := devReadN_frame hd; exact hk as inp bs hne (hl bs rfl)
  · obtain ⟨⟨as, inp, rfl⟩, -⟩ := devReadN_frame hd; exact .emits _ .fail as inp s.devOut hst hp hc

/-- The first turn of receive `poll` (42_receive_fsm R206). -/
theorem execRPoll_first {s : State} (h : s.rPhase ≠ .lock) :
    execRPoll s =
      match devPoll Config.tPoll s with
      | none => .next s
      | some (.success, s') => .next { s' with rPhase := .lock }
      | some (_, s') => .next (recvEmit .poll .fail s') := by
  unfold execRPoll
  cases hp : s.rPhase <;> first | rfl | exact absurd hp h

/-- Receive `poll` is a move (42_receive_fsm R206). -/
theorem execRPoll_move {s s' : State} (hst : s.rState = .poll) (h : execRPoll s = .next s') : RecvMove s s' := by
  unfold execRPoll at h
  split at h
  · next hp =>
    split at h
    · cases h; exact .waits (hst ▸ rfl)
    · next s1 hl => obtain ⟨ho, rfl⟩ := lockAcquire_cases hl; cases h; exact .pollPass hst hp ho
  · next hp =>
    split at h
    · cases h; exact .waits (hst ▸ rfl)
    · next s1 hd =>
      obtain ⟨a, rest, -, -, rfl⟩ := devPoll_cases hd
      cases h
      exact .pollReadable rest hst hp
    · next r s1 hx hd =>
      obtain ⟨a, rest, -, -, rfl⟩ := devPoll_cases hd
      cases h
      exact .pollFail rest hst hp

/-- Receive `enquiry` is a move (42_receive_fsm R208). -/
theorem execREnquiry_move {s s' : State} (hst : s.rState = .enquiry) (h : execREnquiry s = .next s') :
    RecvMove s s' := by
  unfold execREnquiry at h
  split at h
  · cases h; exact .waits (hst ▸ rfl)
  · next b s1 hd =>
    obtain ⟨a, rest, -, ⟨-, hr, -⟩ | ⟨-, hr, -⟩ | ⟨b', bs, -, hr, hb, rfl⟩⟩ := drainRead_cases hd
    · cases hr
    · cases hr
    · cases hr; cases h; exact .drains rest b bs hst hb
  · next s1 hd =>
    obtain ⟨a, rest, -, ⟨-, hr, -⟩ | ⟨-, -, he, rfl⟩ | ⟨b', bs, -, hr, -⟩⟩ := drainRead_cases hd
    · cases hr
    · cases h; exact .drained rest hst he
    · cases hr
  · next s1 hd =>
    obtain ⟨as, inp, rfl⟩ := devRead1_frame hd
    cases h
    exact .emits _ .fail as inp s.devOut hst rfl (by decide)

/-- Receive `data` is a move (42_receive_fsm R216). -/
theorem execRData_move {s s' : State} (hst : s.rState = .data) (h : execRData s = .next s') : RecvMove s s' := by
  unfold execRData at h
  split at h
  · cases h
  · next hn => cases h; exact .dataNone hst hn
  · next n hn =>
    refine fieldN_move hst rfl rfl (by decide) ?_ h
    intro as inp bs hne hl
    exact .data as inp bs hst hne (by rw [hn, hl])

/-- Receive `cs` is a move (42_receive_fsm R218). -/
theorem execRCs_move {s s' : State} (hst : s.rState = .cs) (h : execRCs s = .next s') : RecvMove s s' := by
  unfold execRCs at h
  split at h
  · cases h
  · next hne =>
    split at h
    · cases h; exact .waits (hst ▸ rfl)
    · next b s1 hd => obtain ⟨as, inp, rfl⟩ := devRead1_frame hd; cases h; exact .cs as inp b hst hne
    · next s1 hd =>
      obtain ⟨as, inp, rfl⟩ := devRead1_frame hd
      cases h
      exact .emits _ .deny as inp s.devOut hst rfl (by decide)
    · next s1 hd =>
      obtain ⟨as, inp, rfl⟩ := devRead1_frame hd
      cases h
      exact .emits _ .fail as inp s.devOut hst rfl (by decide)

/-- Receive `retry` is a move (42_receive_fsm R221). -/
theorem execRRetry_move {s s' : State} (hst : s.rState = .retry) (h : execRRetry s = .next s') : RecvMove s s' := by
  unfold execRRetry at h
  split at h
  · cases h
  · next hne =>
    dsimp only at h
    split at h
    · next hl => cases h; exact .retryPass hst hne hl
    · next hl => cases h; exact .retryFail hst hne (Nat.le_of_not_lt hl)

/-- Every turn of the receive engine that answers a next state is one of these moves. -/
theorem recv_cases {s s' : State} (h : exec (recvInstr s.rState) s = .next s') : RecvMove s s' := by
  cases hst : s.rState <;> rw [hst] at h
  case idle => cases h; exact .idle hst
  case poll => exact execRPoll_move hst h
  case repoll => cases h; exact .repoll hst
  case enquiry => exact execREnquiry_move hst h
  case ack =>
    refine recvWrite_move hst rfl (fun ev => by cases ev <;> rfl) ?_ h
    rintro ev (rfl | rfl) <;> decide
  case stx =>
    exact field1_move hst rfl rfl (by decide) (fun as inp b hne => .stx as inp b hst hne) h
  case len =>
    exact field1_move hst rfl rfl (by decide) (fun as inp b hne => .len as inp b hst hne) h
  case datacmd =>
    exact fieldN_move hst rfl rfl (by decide) (fun as inp bs hne hl => .datacmd as inp bs hst hne hl) h
  case dataextlen =>
    simp only [recvInstr, exec, execRDataextlen] at h
    split at h
    · next hs => cases h; exact .extlenSkip hst hs
    · next hs =>
      exact fieldN_move hst rfl rfl (by decide)
        (fun as inp bs hne hl => .extlen as inp bs hst hne hs hl) h
  case dataframenumber =>
    simp only [recvInstr, exec, execRDataframenumber] at h
    split at h
    · next hs =>
      exact fieldN_move hst rfl rfl (by decide)
        (fun as inp bs hne hl => .number as inp bs hst hne hs hl) h
    · next hs => cases h; exact .numberSkip hst hs
  case data => exact execRData_move hst h
  case etx =>
    exact field1_move hst rfl rfl (by decide) (fun as inp b hne => .etx as inp b hst hne) h
  case cs => exact execRCs_move hst h
  case ack2 =>
    refine recvWrite_move hst rfl (fun ev => by cases ev <;> rfl) ?_ h
    rintro ev (rfl | rfl) <;> decide
  case nak =>
    refine recvWrite_move hst rfl (fun ev => by cases ev <;> rfl) ?_ h
    rintro ev (rfl | rfl) <;> decide
  case retry => exact execRRetry_move hst h
  case done =>
    simp only [recvInstr, exec, execRDone] at h
    split at h
    · next hm => cases h; exact .doneMore hst hm
    · next hm => cases h; exact .doneLast hst (by simpa using hm)
  case error => cases h; exact .error hst
  case end_ =>
    obtain ⟨ho, p, hp, rfl⟩ | ⟨ho, rfl⟩ := execREnd_cases h
    · exact .endOk p hst ho hp
    · exact .endFail hst ho

end Sys2Proof.Machine
end

