-- ==== Sys2Proof/Laws/Run.lean ====
section
/-! SUPPORT. Runs of several steps, taken apart: one step at a time, and what a turn of an engine or of the environment
does. -/

namespace Sys2Proof.Machine

/-- A turn of the send engine executes the action of its state. -/
theorem step_send {s : State} {st : SendState} {rest : List Turn} (ht : s.turns = .engine .send :: rest)
    (hr : s.sRun = true) (hs : s.sState = st) : step s = exec (sendInstr st) { s with turns := rest } := by
  subst hs
  unfold step
  rw [ht]
  simp [fetch, hr]

/-- A turn of the receive engine executes the action of its state. -/
theorem step_recv {s : State} {st : RecvState} {rest : List Turn} (ht : s.turns = .engine .recv :: rest)
    (hr : s.rRun = true) (hs : s.rState = st) : step s = exec (recvInstr st) { s with turns := rest } := by
  subst hs
  unfold step
  rw [ht]
  simp [fetch, hr]

/-- A turn of the host executes its request. -/
theorem step_host {s : State} {r : HostRequest} {rest : List Turn} (ht : s.turns = .host r :: rest) :
    step s = exec (hostInstr r) { s with turns := rest } := by
  unfold step
  rw [ht]
  rfl

/-- A wire unit that decodes is executed. -/
theorem step_unit {s : State} {ctx : WireContext} {bytes : Bytes} {i : Instr} {rest : List Turn}
    (ht : s.turns = .unit ctx bytes :: rest) (hd : decode (.wire ctx bytes) = .ok i) :
    step s = exec i { s with turns := rest } := by
  unfold step
  rw [ht]
  simp [fetch, hd]

/-- A turn in which the host collects a result. -/
theorem step_collect {s : State} {k : Nat} {rest : List Turn} (ht : s.turns = .collect k :: rest) :
    step s = .next (collect k { s with turns := rest }) := by
  unfold step
  rw [ht]
  rfl

@[simp] theorem runFor_zero (s : State) : runFor 0 s = some s := rfl

/-- A run whose first step is known. -/
theorem runFor_next {n : Nat} {s t : State} (h : step s = .next t) : runFor (n + 1) s = runFor n t := by
  simp only [runFor, h]

/-- A run is a shorter run and then the rest of it. -/
theorem runFor_add (m n : Nat) (s : State) : runFor (m + n) s = (runFor m s).bind (runFor n) := by
  induction m generalizing s with
  | zero => simp
  | succ m ih =>
    rw [Nat.add_right_comm]
    simp only [runFor]
    split
    · exact ih _
    · rfl

end Sys2Proof.Machine
end

