-- ==== Sys2Proof/Laws/Send.lean ====
section
/-! SUPPORT. What a turn of the send engine can do, said once for all twelve states (41_send_fsm R164 to R175), with
the device's part left abstract: which answers, which input and which output it leaves. -/

namespace Sys2Proof.Machine

/-- The send states whose action is device calls and an event, with no register of its own. -/
def sendPlain : SendState → Bool
  | .reenquiry | .ack | .frame | .ack2 | .nak => true
  | _ => false

/-- The send engine can spend a turn waiting: for the lock in `enquiry`, else in a device call. -/
def sendCanWait (s : State) : Bool :=
  match s.sState with
  | .enquiry => true
  | .retry => decide (s.sPhase = .reopen)
  | st => sendPlain st

/-- What a turn of the send engine can do to the state `s` it begins in. -/
inductive SendMove (s : State) : State → Prop where
  /-- The action waits for the lock or in a device call. -/
  | waits (can : sendCanWait s = true) : SendMove s s
  /-- Device calls and an event. -/
  | emits (ss : SendState) (ev : Event) (as : List DevAnswer) (inp out : Bytes) (st : s.sState = ss)
      (plain : sendPlain ss = true) (can : ev ∈ sendCanEmit ss) :
      SendMove s (sendEmit ss ev { s with answers := as, devIn := inp, devOut := out })
  | idle (st : s.sState = .idle) : SendMove s (sendEmit .idle .pass { s with r2 := 0 })
  | enquiry (st : s.sState = .enquiry) (free : s.lockOwner = none ∨ s.lockOwner = some .send) :
      SendMove s (sendEmit .enquiry .pass { s with lockOwner := some .send })
  /-- A read of the drain of `reenquiry` that gives a byte, of the stream or of a closed device (log 29). -/
  | drains (as : List DevAnswer) (b : Byte) (inp : Bytes) (st : s.sState = .reenquiry) (ph : s.sPhase ≠ .write)
      (take : s.devIn = b :: inp ∨ (s.deviceOpen = false ∧ s.devIn = [] ∧ inp = [])) : SendMove s { s with answers := as, devIn := inp }
  /-- The read that ends the drain of `reenquiry`, on an empty stream if the device is open (20_memory R72; log 29). -/
  | drained (as : List DevAnswer) (st : s.sState = .reenquiry) (ph : s.sPhase ≠ .write)
      (empty : s.deviceOpen = true → s.devIn = []) : SendMove s { s with answers := as, sPhase := .write }
  /-- `retry` below the ceiling: the increment and the release. -/
  | retryRelease (st : s.sState = .retry) (ph : s.sPhase.released = false)
      (lt : s.r2.toNat + 1 < Config.sendRetryLimit) :
      SendMove s { lockRelease .send { s with r2 := s.r2 + 1 } with sPhase := .sleep }
  /-- `retry` at the ceiling. -/
  | retryFail (st : s.sState = .retry) (ph : s.sPhase.released = false)
      (ge : Config.sendRetryLimit ≤ s.r2.toNat + 1) : SendMove s (sendEmit .retry .fail { s with r2 := s.r2 + 1 })
  /-- `retry` after the sleep, no reopen due. -/
  | retryPass (st : s.sState = .retry) (ph : s.sPhase = .sleep) (due : s.r2.toNat % Config.reopenPeriod ≠ 0) :
      SendMove s (sendEmit .retry .pass (sleep Config.tBackoff s))
  /-- `retry` after the sleep, a reopen due. -/
  | retryDue (st : s.sState = .retry) (ph : s.sPhase = .sleep) (due : s.r2.toNat % Config.reopenPeriod = 0) :
      SendMove s { sleep Config.tBackoff s with sPhase := .close }
  | retryClose (st : s.sState = .retry) (ph : s.sPhase = .close) :
      SendMove s { devClose s with sPhase := .reopen }
  | retryOpen (as : List DevAnswer) (inp : Bytes) (op : Bool) (st : s.sState = .retry) (ph : s.sPhase = .reopen) :
      SendMove s (sendEmit .retry .pass { s with answers := as, devIn := inp, deviceOpen := op })
  | waitRelease (st : s.sState = .wait) (ph : s.sPhase ≠ .sleep) :
      SendMove s { lockRelease .send s with sPhase := .sleep }
  | waitPass (st : s.sState = .wait) (ph : s.sPhase = .sleep) :
      SendMove s (sendEmit .wait .pass (sleep Config.tBackoff s))
  | doneMore (st : s.sState = .done) (more : s.txMore = true) :
      SendMove s (sendEmit .done .wait { s with txCursor := s.txCursor + 1 })
  | doneLast (st : s.sState = .done) (more : s.txMore = false) :
      SendMove s (sendEmit .done .pass { s with txOk := true })
  | error (st : s.sState = .error) : SendMove s (sendEmit .error .pass { s with txOk := false })
  | end_ (st : s.sState = .end_) :
      SendMove s (callReturns (.sendResult s.txOk) (endSend (lockRelease .send s)))

/-- The event of a send-side write is `Pass`, `Deny` or `Fail` (41_send_fsm R176). -/
theorem classifySendWrite_mem (n : Nat) (r : DevStatus × Nat) :
    classifySendWrite n r = .pass ∨ classifySendWrite n r = .deny ∨ classifySendWrite n r = .fail := by
  obtain ⟨st, k⟩ := r
  cases st <;> simp only [classifySendWrite]
  · split <;> simp
  · simp
  · simp

/-- A state whose action is device calls can wait in them. -/
theorem sendPlain_canWait {s : State} {ss : SendState} (hst : s.sState = ss) (hp : sendPlain ss = true) :
    sendCanWait s = true := by
  subst hst
  unfold sendCanWait
  split <;> first | rfl | exact hp | (next h => rw [h] at hp; cases hp)

/-- An answer read is a move. -/
theorem answerWait_move {s s' : State} {ss : SendState} (hst : s.sState = ss) (hp : sendPlain ss = true)
    (hc : ∀ ev, ev ∈ sendCanEmit ss) (h : answerWait ss s = .next s') : SendMove s s' := by
  rcases answerWait_cases h with ⟨-, rfl⟩ | ⟨r, as, inp, rfl, -⟩
  · exact .waits (sendPlain_canWait hst hp)
  · exact .emits _ _ as inp s.devOut hst hp (hc _)

/-- A write is a move. -/
theorem sendWrite_move {s s' : State} {bs : Bytes} {ss : SendState} (hst : s.sState = ss) (hp : sendPlain ss = true)
    (hc : ∀ ev, ev = .pass ∨ ev = .deny ∨ ev = .fail → ev ∈ sendCanEmit ss)
    (h : sendWrite ss bs s = .next s') : SendMove s s' := by
  rcases sendWrite_cases h with ⟨-, rfl⟩ | ⟨r, s2, hw, rfl⟩
  · exact .waits (sendPlain_canWait hst hp)
  · obtain ⟨a, rest, -, -, rfl⟩ := devWrite_cases hw
    exact .emits _ _ rest s.devIn _ hst hp (hc _ (classifySendWrite_mem _ _))

/-- The drain of send `reenquiry` (41_send_fsm R166). -/
theorem execSReenquiry_drain {s : State} (h : s.sPhase ≠ .write) :
    execSReenquiry s =
      match drainRead s with
      | none => .next s
      | some (.success _, s') => .next s'
      | some (.timeout, s') => .next { s' with sPhase := .write }
      | some (.error, s') => .next (sendEmit .reenquiry .fail s') := by
  unfold execSReenquiry
  cases hp : s.sPhase <;> first | rfl | exact absurd hp h

/-- The first turn of send `retry` (41_send_fsm R170). -/
theorem execSRetry_first {s : State} (h : s.sPhase.released = false) :
    execSRetry s =
      if s.r2.toNat + 1 < Config.sendRetryLimit then
        .next { lockRelease .send { s with r2 := s.r2 + 1 } with sPhase := .sleep }
      else .next (sendEmit .retry .fail { s with r2 := s.r2 + 1 }) := by
  unfold execSRetry
  cases hp : s.sPhase <;> first | rfl | (rw [hp] at h; cases h)

/-- The first turn of send `wait` (41_send_fsm R172). -/
theorem execSWait_first {s : State} (h : s.sPhase ≠ .sleep) :
    execSWait s = .next { lockRelease .send s with sPhase := .sleep } := by
  unfold execSWait
  cases hp : s.sPhase <;> first | rfl | exact absurd hp h

/-- Send `reenquiry` is a move (41_send_fsm R166). -/
theorem execSReenquiry_move {s s' : State} (hst : s.sState = .reenquiry) (h : execSReenquiry s = .next s') :
    SendMove s s' := by
  unfold execSReenquiry at h
  split at h
  · refine sendWrite_move hst rfl ?_ h
    rintro ev (rfl | rfl | rfl) <;> decide
  · next hp =>
    split at h
    · cases h; exact .waits (sendPlain_canWait hst rfl)
    · next b s1 hd =>
      obtain ⟨a, rest, -, ⟨-, hr, -⟩ | ⟨-, hr, -⟩ | ⟨b', bs, -, -, hb, rfl⟩⟩ := drainRead_cases hd
      · cases hr
      · cases hr
      · cases h; exact .drains rest b' bs hst hp hb
    · next s1 hd =>
      obtain ⟨a, rest, -, ⟨-, hr, -⟩ | ⟨-, -, he, rfl⟩ | ⟨b', bs, -, hr, -⟩⟩ := drainRead_cases hd
      · cases hr
      · cases h; exact .drained rest hst hp he
      · cases hr
    · next s1 hd =>
      obtain ⟨as, inp, rfl⟩ := devRead1_frame hd
      cases h
      exact .emits _ .fail as inp s.devOut hst rfl (by decide)

/-- Send `frame` is a move (41_send_fsm R168). -/
theorem execSFrame_move {s s' : State} (hst : s.sState = .frame) (h : execSFrame s = .next s') : SendMove s s' := by
  unfold execSFrame at h
  split at h
  · cases h
  · refine sendWrite_move hst rfl ?_ h
    rintro ev (rfl | rfl | rfl) <;> decide

/-- Send `retry` is a move (41_send_fsm R170). -/
theorem execSRetry_move {s s' : State} (hst : s.sState = .retry) (h : execSRetry s = .next s') : SendMove s s' := by
  unfold execSRetry at h
  split at h
  · next hp =>
    dsimp only at h
    split at h
    · next hd => cases h; exact .retryDue hst hp hd
    · next hd => cases h; exact .retryPass hst hp hd
  · next hp => cases h; exact .retryClose hst hp
  · next hp =>
    split at h
    · cases h; exact .waits (by simp [sendCanWait, hst, hp])
    · next s1 hd =>
      obtain ⟨a, rest, -, rfl⟩ := devOpen_cases hd
      cases h
      exact .retryOpen rest a.stream a.opened hst hp
  · next h1 h2 h3 =>
    have hp : s.sPhase.released = false := by cases hs : s.sPhase <;> first | rfl | contradiction
    dsimp only at h
    split at h
    · next hl => cases h; exact .retryRelease hst hp hl
    · next hl => cases h; exact .retryFail hst hp (Nat.le_of_not_lt hl)

/-- Every turn of the send engine that answers a next state is one of these moves. -/
theorem send_cases {s s' : State} (h : exec (sendInstr s.sState) s = .next s') : SendMove s s' := by
  cases hst : s.sState <;> rw [hst] at h
  case idle => cases h; exact .idle hst
  case enquiry =>
    simp only [sendInstr, exec, execSEnquiry] at h
    split at h
    · cases h; exact .waits (by simp [sendCanWait, hst])
    · next s1 hl => obtain ⟨ho, rfl⟩ := lockAcquire_cases hl; cases h; exact .enquiry hst ho
  case reenquiry => exact execSReenquiry_move hst h
  case ack =>
    exact answerWait_move hst rfl (fun ev => by cases ev <;> decide) h
  case frame => exact execSFrame_move hst h
  case ack2 =>
    exact answerWait_move hst rfl (fun ev => by cases ev <;> decide) h
  case retry => exact execSRetry_move hst h
  case nak =>
    refine sendWrite_move hst rfl ?_ h
    rintro ev (rfl | rfl | rfl) <;> decide
  case wait =>
    simp only [sendInstr, exec, execSWait] at h
    split at h
    · next hp => cases h; exact .waitPass hst hp
    · next hp => cases h; exact .waitRelease hst hp
  case done =>
    simp only [sendInstr, exec, execSDone] at h
    split at h
    · next hm => cases h; exact .doneMore hst hm
    · next hm => cases h; exact .doneLast hst (by simpa using hm)
  case error => cases h; exact .error hst
  case end_ => cases h; exact .end_ hst

end Sys2Proof.Machine
end

