-- ==== Sys2Proof/Tests/Slice0.lean ====
section
/-! SUPPORT. Tests: the WellFormed smoke test, a word for every row of the opcode table, small steps with the results of
spec/95_test_vectors, and a witness for the hypotheses of every statement. -/

namespace Sys2Proof.Tests

open Machine

/-- The next state of an outcome. -/
def nextOf : Host.Outcome State Fault Refusal → Option State
  | .next t => some t
  | _ => none

/-- The instruction a decoding gives. -/
def decoded (c : Code) : Option Instr := (decode c).toOption

/-- An answer with a status and a count. -/
def ans (st : DevStatus) (n : Nat) : DevAnswer := ⟨st, n, [0xEE], false⟩

/-! ### WellFormed refuses an ill-formed term for each check -/

theorem test_wf_regular_too_long (d : Bytes) (h : d.length = 249) : (Instr.frameReg 1 2 3 d 0).wellFormed = false := by
  simp [Instr.wellFormed, h]
theorem test_wf_extended_too_long (d : Bytes) (h : d.length = 1028) : (Instr.frameExt 1 2 3 d 0).wellFormed = false := by
  simp [Instr.wellFormed, h]
theorem test_wf_chunk_too_long (d : Bytes) (h : d.length = 1025) :
    (Instr.frameDivMore 1 2 2 0 2 d 0).wellFormed = false ∧ (Instr.frameDivLast 1 2 3 1 2 d 0).wellFormed = false := by
  simp [Instr.wellFormed, h]
theorem test_wf_flags_not_more :
    [0x28, 0x29, 0x2B].map (fun cb => (Instr.frameDivMore 1 2 cb 0 2 [0] 0).wellFormed) = [false, false, false] := by
  decide
theorem test_wf_flags_not_last :
    [0x28, 0x29, 0x2A].map (fun cb => (Instr.frameDivLast 1 2 cb 1 2 [0] 0).wellFormed) = [false, false, false] := by
  decide
theorem test_wf_above_maximum (d : Bytes) (h : d.length = Config.maxPayload + 1) :
    (Instr.buildFrames d).wellFormed = false ∧ (Instr.send d).wellFormed = false := by
  simp [Instr.wellFormed, h]
theorem test_wf_build_regular (d : Bytes) (h : d.length = 252) : (Instr.buildRegular d).wellFormed = false := by
  simp [Instr.wellFormed, h]
theorem test_wf_build_extended (d e : Bytes) (h : d.length = 251) (k : e.length = 1031) :
    (Instr.buildExtended d).wellFormed = false ∧ (Instr.buildExtended e).wellFormed = false := by
  simp [Instr.wellFormed, h, k]
theorem test_wf_build_divided (d e : Bytes) (h : d.length = 1030) (k : e.length = 67107844) :
    (Instr.buildDivided d).wellFormed = false ∧ (Instr.buildDivided e).wellFormed = false := by
  simp [Instr.wellFormed, h, k]
theorem test_wf_parse_frames : (Instr.parseFrames []).wellFormed = false ∧
    (Instr.parseFrames [[2, 5, 1, 2, 3, 3, 9], []]).wellFormed = false := by decide
theorem test_wf_parse_regular : (Instr.parseRegular [2, 5, 3]).wellFormed = false := by decide
theorem test_wf_parse_extended : (Instr.parseExtended [2, 0xFE, 1, 2, 3, 0, 0, 5, 3]).wellFormed = false := by decide
theorem test_wf_parse_divided : (Instr.parseDivided [[2, 0xFE, 1, 2, 3, 0, 0, 12]]).wellFormed = false := by decide
theorem test_wf_send_short : (Instr.send [1, 2]).wellFormed = false := by decide

/-! ### A word for every row of the opcode table, written out from its encoding -/

theorem test_decode_controls :
    decode (.wire .answer [0x05]) = .ok .enq ∧ decode (.wire .answer [0x06]) = .ok .ack ∧
    decode (.wire .answer [0x15]) = .ok .nak := ⟨rfl, rfl, rfl⟩
theorem test_decode_delimiters :
    decode (.wire .delimiter [0x02]) = .ok .stx ∧ decode (.wire .delimiter [0x03]) = .ok .etx ∧
    decode (.wire .delimiter [0xFE]) = .ok .extLen := ⟨rfl, rfl, rfl⟩
/-- 95_test_vectors V1. -/
theorem test_decode_frameReg (cs : Byte) :
    decode (.wire (.frame false) [0x02, 0x08, 0x01, 0x02, 0x28, 0xF1, 0xF2, 0xF3, 0x03, cs]) =
      .ok (.frameReg 0x01 0x02 0x28 [0xF1, 0xF2, 0xF3] cs) := rfl
/-- 95_test_vectors 2.1, size 3: the smallest regular frame. -/
theorem test_decode_frameReg_smallest (cs : Byte) :
    decode (.wire (.frame true) [0x02, 0x05, 0x01, 0x02, 0x28, 0x03, cs]) = .ok (.frameReg 0x01 0x02 0x28 [] cs) := rfl
/-- 95_test_vectors 4.3: EXTLEN 5 is an undivided frame without data. -/
theorem test_decode_frameExt (cs : Byte) :
    decode (.wire (.frame false) [0x02, 0xFE, 0x01, 0x02, 0x28, 0x00, 0x00, 0x05, 0x03, cs]) =
      .ok (.frameExt 0x01 0x02 0x28 [] cs) := rfl
/-- 30_encoding R102, with FRAMENO 1 of 3. -/
theorem test_decode_frameDivMore (cs : Byte) :
    decode (.wire (.frame true)
      [0x02, 0xFE, 0x01, 0x02, 0x2A, 0x00, 0x00, 0x0D, 0x00, 0x01, 0x00, 0x03, 0xAA, 0x03, cs]) =
      .ok (.frameDivMore 0x01 0x02 0x2A 1 3 [0xAA] cs) := rfl
/-- 95_test_vectors 2.1, size 2052, frame 2. -/
theorem test_decode_frameDivLast (cs : Byte) :
    decode (.wire (.frame true)
      [0x02, 0xFE, 0x01, 0x02, 0x2B, 0x00, 0x00, 0x0D, 0x00, 0x02, 0x00, 0x03, 0xAA, 0x03, cs]) =
      .ok (.frameDivLast 0x01 0x02 0x2B 2 3 [0xAA] cs) := rfl
/-- The same bytes with no division history are an undivided frame (95_test_vectors 2.4). -/
theorem test_decode_history (cs : Byte) :
    decode (.wire (.frame false)
      [0x02, 0xFE, 0x01, 0x02, 0x2B, 0x00, 0x00, 0x0D, 0x00, 0x00, 0x00, 0x01, 0xAA, 0xBB, 0xCC, 0xDD, 0x03, cs]) =
      .ok (.frameExt 0x01 0x02 0x2B [0x00, 0x00, 0x00, 0x01, 0xAA, 0xBB, 0xCC, 0xDD] cs) := rfl
/-- 30_encoding R112: flags that say neither more nor last. -/
theorem test_decode_division_flags (cs : Byte) :
    [0x28, 0x29].map (fun cb => decoded (.wire (.frame true)
      [0x02, 0xFE, 0x01, 0x02, cb, 0x00, 0x00, 0x0C, 0x00, 0x01, 0x00, 0x03, 0x03, cs])) = [none, none] := rfl
theorem test_decode_send_states :
    [0, 1, 2, 3, 4, 5, 6, 7, 8, 9, 10, 11, 12, 15].map (fun w => decoded (.sendState w)) =
      [some .sIdle, some .sEnquiry, some .sReenquiry, some .sAck, some .sFrame, some .sAck2, some .sRetry, some .sNak,
        some .sWait, some .sDone, some .sError, some .sEnd, none, none] := by decide
theorem test_decode_recv_states :
    [0, 1, 2, 3, 4, 5, 6, 7, 8, 9, 10, 11, 12, 13, 14, 15, 16, 17, 18, 19, 31].map (fun w => decoded (.recvState w)) =
      [some .rIdle, some .rPoll, some .rRepoll, some .rEnquiry, some .rAck, some .rStx, some .rLen, some .rDatacmd,
        some .rDataextlen, some .rDataframenumber, some .rData, some .rEtx, some .rCs, some .rAck2, some .rNak,
        some .rRetry, some .rDone, some .rError, some .rEnd, none, none] := by decide
theorem test_decode_codec_requests :
    [CodecRequest.buildFrames [1], .buildRegular [2], .buildExtended [3], .buildDivided [4], .parseFrames [[5]],
      .parseRegular [6], .parseExtended [7], .parseDivided [[8]]].map (fun r => decoded (.codec r)) =
      [some (.buildFrames [1]), some (.buildRegular [2]), some (.buildExtended [3]), some (.buildDivided [4]),
        some (.parseFrames [[5]]), some (.parseRegular [6]), some (.parseExtended [7]), some (.parseDivided [[8]])] := by
  decide
theorem test_decode_host_requests :
    [HostRequest.construct, .send [1], .receive, .destruct, .readCounters].map (fun r => decoded (.host r)) =
      [some .construct, some (.send [1]), some .receive, some .destruct, some .readCounters] := by decide
/-- 10_state R25, 60_exceptions R301. -/
theorem test_event_numbers :
    [0, 1, 2, 3, 4, 5, 7].map eventOf = [some .pass, some .busy, some .wait, some .deny, some .fail, none, none] := by
  decide
theorem test_table_words :
    decodeTableWord 8 0x05 = some .enq ∧ decodeTableWord 8 0xFE = some .extLen ∧ decodeTableWord 8 0x02 = some .stx ∧
    decodeTableWord 4 6 = some .sRetry ∧ decodeTableWord 5 6 = some .rLen ∧ decodeTableWord 8 0 = some .sIdle ∧
    decodeTableWord 8 18 = some .rEnd ∧ decodeTableWord 8 0xAA = none := ⟨rfl, rfl, rfl, rfl, rfl, rfl, rfl, rfl⟩

/-! ### Small steps, results from 95_test_vectors -/

/-- A transport with a `send` running in a state, owning the lock. -/
def sending (st : SendState) : State := { State.reset with sRun := true, sState := st, lockOwner := some .send }

/-- A transport with a `receive` running in a state, owning the lock. -/
def receiving (st : RecvState) : State :=
  { State.reset with rRun := true, rState := st, lockOwner := some .recv, rxf := [[]] }

/-- The buffer of 95_test_vectors 4.5. -/
def buffered : Bytes := [0x02, 0x08, 0x01, 0x02, 0x28, 0xF1, 0xF2, 0xF3, 0x03]

/-- An arriving unit joins the stream behind what is there. -/
theorem test_arrival : (nextOf (exec .enq { State.reset with devIn := [1] })).map (·.devIn) = some [1, 5] := by decide
theorem test_arrival_frame : (nextOf (exec (.frameDivMore 1 2 0x2A 0x0102 0x0304 [9] 7) State.reset)).map (·.devIn) =
    some [2, 0xFE, 1, 2, 0x2A, 0, 0, 13, 1, 2, 3, 4, 9, 3, 7] := by decide
/-- 3.2: `r2` 0, 5, 11, 233, 239. -/
theorem test_sRetry :
    [0, 5, 11, 233, 239].map (fun n => (nextOf (exec .sRetry { sending .retry with r2 := n })).map
      (fun t => (t.r2, t.sState, t.sPhase, t.lockOwner))) =
    [some (1, .retry, .sleep, none), some (6, .retry, .sleep, none), some (12, .retry, .sleep, none),
      some (234, .retry, .sleep, none), some (240, .error, .start, some .send)] := by decide
/-- 3.2: after the sleep, a reopen at every sixth count. -/
theorem test_sRetry_reopen :
    [1, 6, 12, 234, 239].map (fun n => (nextOf (exec .sRetry { sending .retry with r2 := n, sPhase := .sleep })).map
      (fun t => (t.sState, t.sPhase))) =
    [some (.enquiry, .start), some (.retry, .close), some (.retry, .close), some (.retry, .close),
      some (.enquiry, .start)] := by decide
/-- 3.1. -/
theorem test_sAck :
    [0x06, 0x15, 0x05, 0x00, 0xFF].map (fun b => (nextOf (exec .sAck
      { sending .ack with devIn := [b, 9], answers := [ans .success 0] })).map (fun t => (t.sEvent, t.sState, t.devIn))) =
    [some (.pass, .frame, [9]), some (.busy, .reenquiry, [9]), some (.wait, .nak, [9]), some (.deny, .retry, [9]),
      some (.deny, .retry, [9])] := by decide
theorem test_sAck2 :
    [DevStatus.timeout, .error].map (fun st => (nextOf (exec .sAck2
      { sending .ack2 with devIn := [6], answers := [ans st 0] })).map (fun t => (t.sEvent, t.sState, t.devIn))) =
    [some (.deny, .retry, [6]), some (.fail, .retry, [6])] := by decide
/-- 3.3. -/
theorem test_sDone :
    [0, 1].map (fun c => (nextOf (exec .sDone { sending .done with txf := [[1], [2]], txCursor := c })).map
      (fun t => (t.txCursor, t.txOk, t.sState))) =
    [some (1, false, .reenquiry), some (1, true, .end_)] := by decide
/-- 3.4: a ten-byte frame written in full, in part, with a timeout. -/
theorem test_sFrame :
    [ans .success 10, ans .success 7, ans .timeout 3].map (fun a => (nextOf (exec .sFrame
      { sending .frame with txf := [buffered ++ [0]], answers := [a] })).map (fun t => (t.sEvent, t.devOut.length))) =
    [some (.pass, 10), some (.fail, 7), some (.deny, 3)] := by decide
/-- 20_memory R72, R76: a drain of an open device never ends while its stream holds a byte, whatever answer has come. -/
theorem test_drain_takes_all :
    [DevStatus.success, .timeout].map (fun st => (drainRead
      { sending .reenquiry with devIn := [6, 5], answers := [ans st 0] }).map (fun p => (p.1, p.2.devIn))) =
      [some (.success 6, [5]), some (.success 6, [5])] ∧
    [DevStatus.success, .timeout].map (fun st => (drainRead
      { sending .reenquiry with devIn := [], answers := [ans st 0] }).map (fun p => (p.1, p.2.devIn))) =
      [some (.timeout, []), some (.timeout, [])] := by decide
/-- 60_exceptions R332: on a closed device every status can be the answer of a drain's read, with bytes in the stream and
without. -/
theorem test_drain_closed (inp : Bytes) (h : inp = [] ∨ inp = [5]) :
    [DevStatus.success, .timeout, .error].map (fun st => (drainRead
      { sending .reenquiry with deviceOpen := false, devIn := inp, answers := [ans st 0] }).map (fun p =>
        match p.1 with
        | .success _ => DevStatus.success
        | .timeout => .timeout
        | .error => .error)) = [some .success, some .timeout, some .error] := by
  rcases h with rfl | rfl <;> decide
/-- 3.4: the drain discards a byte, ends when there is none, and ENQ is written. -/
theorem test_sReenquiry :
    [(SendPhase.start, [5, 6]), (.start, []), (.write, [6])].map (fun (p : SendPhase × Bytes) =>
      (nextOf (exec .sReenquiry { sending .reenquiry with
        sPhase := p.1, devIn := p.2, answers := [ans .success 1] })).map
      (fun t => (t.sPhase, t.sState, t.devIn, t.devOut))) =
    [some (.start, .reenquiry, [6], []), some (.write, .reenquiry, [], []), some (.start, .ack, [6], [5])] := by decide
/-- The lock: taken when free, waited for while the receive engine owns it (10_state R40). -/
theorem test_sEnquiry :
    [none, some Engine.recv].map (fun o => (nextOf (exec .sEnquiry { sending .enquiry with lockOwner := o })).map
      (fun t => (t.lockOwner, t.sState))) =
    [some (some .send, .reenquiry), some (some .recv, .enquiry)] := by decide
/-- P3: `end` returns `false`. -/
theorem test_sEnd : (nextOf (exec .sEnd (sending .end_))).map (fun t => (t.sRun, t.lockOwner, t.returns)) =
    some (false, none, [.sendResult false]) := rfl
/-- 4.1: the last byte of the drain. -/
theorem test_rEnquiry :
    [RecvPhase.drained 0x05, .drained 0x15, .start, .drained 0x00].map (fun ph => (nextOf (exec .rEnquiry
      { receiving .enquiry with rPhase := ph, answers := [ans .timeout 0] })).map (fun t => (t.rEvent, t.rState))) =
    [some (.pass, .ack), some (.busy, .repoll), some (.busy, .repoll), some (.deny, .retry)] := by decide
/-- 4.1: a later byte takes the place of an earlier one. -/
theorem test_rEnquiry_read : (nextOf (exec .rEnquiry
      { receiving .enquiry with rPhase := .drained 0x15, devIn := [5, 0], answers := [ans .success 0] })).map
    (fun t => (t.rPhase, t.rState, t.devIn)) = some (.drained 5, .enquiry, [0]) := by decide
/-- 4.2. -/
theorem test_rLen :
    [0x04, 0x05, 0xFD, 0xFE, 0xFF].map (fun b => (nextOf (exec .rLen
      { receiving .len with devIn := [b], answers := [ans .success 0] })).map
      (fun t => (t.rEvent, t.rxShape, t.rxLen))) =
    [some (.deny, .none, 0), some (.pass, .regular, 5), some (.pass, .regular, 253), some (.pass, .extPending, 0),
      some (.deny, .none, 0)] := by decide
/-- 4.3, for a first frame. -/
theorem test_rDataextlen :
    [(0x04, 0x08), (0x04, 0x09), (0x04, 0x0C), (0x04, 0x0D), (0x00, 0x04), (0x00, 0x05)].map
      (fun (p : Byte × Byte) => (nextOf (exec .rDataextlen { receiving .dataextlen with
        rxShape := .extPending, devIn := [0, p.1, p.2], answers := [ans .success 0] })).map
      (fun t => (t.rEvent, t.rxShape))) =
    [some (.pass, .extended), some (.pass, .divided), some (.pass, .divided), some (.deny, .extPending),
      some (.deny, .extPending), some (.pass, .extended)] := by decide
/-- 4.3, in the middle of a division. -/
theorem test_rDataextlen_mid :
    [0xB9, 0x0B, 0x0C].map (fun b => (nextOf (exec .rDataextlen { receiving .dataextlen with
        rxf := [[1], []], rxShape := .extPending, devIn := [0, 0, b], answers := [ans .success 0] })).map
      (fun t => (t.rEvent, t.rxShape))) =
    [some (.pass, .divided), some (.deny, .extPending), some (.pass, .divided)] := by decide
/-- 42_receive_fsm R215: FRAMENO 0 of 2. -/
theorem test_rDataframenumber : (nextOf (exec .rDataframenumber { receiving .dataframenumber with
      rxShape := .divided, devIn := [1, 0, 0, 2], answers := [ans .success 0] })).map
    (fun t => (t.rxFrameNo, t.rxFrameCnt)) = some (256, 2) := by decide
/-- 4.4. -/
theorem test_rData_count :
    [(Shape.regular, 5), (.regular, 253), (.extended, 1032), (.divided, 1036), (.divided, 13)].map
      (fun (p : Shape × BitVec 24) => rxDataCount { State.reset with rxShape := p.1, rxLen := p.2 }) =
    [some 0, some 248, some 1027, some 1024, some 1] := by decide
/-- P8: three bytes asked, one came. -/
theorem test_rDatacmd_timeout : (nextOf (exec .rDatacmd { receiving .datacmd with
      devIn := [1], answers := [ans .timeout 1] })).map (fun t => (t.rEvent, t.rState, t.devIn, t.devOut)) =
    some (.fail, .error, [], []) := by decide
/-- 4.5: the checksum is over everything but STX. -/
theorem test_rCs_body : rxBody { State.reset with rxf := [buffered] } = [0x08, 0x01, 0x02, 0x28, 0xF1, 0xF2, 0xF3, 0x03] :=
  rfl
theorem test_rCs_failures :
    [DevStatus.timeout, .error].map (fun st => (nextOf (exec .rCs
      { receiving .cs with rxf := [buffered], answers := [ans st 0] })).map (fun t => (t.rEvent, t.rState))) =
    [some (.deny, .nak), some (.fail, .nak)] := by decide
/-- 4.7. -/
theorem test_rRetry :
    [0, 3, 4].map (fun n => (nextOf (exec .rRetry { receiving .retry with r1 := n, rxf := [[1], [2]] })).map
      (fun t => (t.r1, t.rState, t.rxf))) =
    [some (1, .repoll, [[1], []]), some (4, .repoll, [[1], []]), some (5, .error, [[1], []])] := by decide
/-- 4.8. -/
theorem test_rDone :
    [(0, 2), (1, 2), (0, 1), (0, 0), (65535, 0), (5, 2)].map (fun (p : BitVec 16 × BitVec 16) => (nextOf (exec .rDone
      { receiving .done with rxShape := .divided, rxFrameNo := p.1, rxFrameCnt := p.2 })).map
      (fun t => (t.rEvent, t.rxf.length))) =
    [some (.wait, 2), some (.pass, 1), some (.pass, 1), some (.wait, 2), some (.wait, 2), some (.wait, 2)] := by decide
/-- P9: the poll succeeds while the send engine owns the lock, and is not repeated. -/
theorem test_rPoll :
    [(RecvPhase.start, some Engine.send), (.lock, some .send), (.lock, none)].map
      (fun (p : RecvPhase × Option Engine) => (nextOf (exec .rPoll { State.reset with
        rRun := true, rState := .poll, rPhase := p.1, lockOwner := p.2, answers := [ans .success 0] })).map
      (fun t => (t.rPhase, t.rState, t.lockOwner, t.answers.length))) =
    [some (.lock, .poll, some .send, 0), some (.lock, .poll, some .send, 1), some (.start, .enquiry, some .recv, 1)] := by
  decide
/-- 2.4: a regular frame alone, one after the first frame of a division; a list that mixes shapes has no payload. -/
theorem test_parse : parseFrames [buffered ++ [0]] = some [0x01, 0x02, 0x28, 0xF1, 0xF2, 0xF3] ∧
    parseFrames [[0x02, 0xFE, 0x01, 0x02, 0x2A, 0, 0, 13, 0, 0, 0, 2, 0xAA, 0x03, 0], buffered ++ [0]] =
      some [0x01, 0x02, 0x2A, 0xAA, 0xF1, 0xF2, 0xF3] ∧
    parseFrames [buffered ++ [0], [0x02, 0xFE, 0x01, 0x02, 0x2A, 0, 0, 13, 0, 0, 0, 2, 0xAA, 0x03, 0]] = none := by
  decide
/-- 2.1: the first bytes of a regular frame, and the frame count of sizes 1031, 1200, 2051, 2052, 4000. -/
theorem test_build : (regularFrame [0x01, 0x02, 0x28, 0xF1, 0xF2, 0xF3]).dropLast = buffered ∧
    [1028, 1197, 2048, 2049, 3997].map frameCount = [2, 2, 2, 3, 4] := by decide
/-- 2.2: the division flags are OR-ed. -/
theorem test_division_flags :
    [0x28, 0x2A, 0x29, 0x2B].map (fun cb => (flagHeader Config.DIV_MORE [1, 2, cb], flagHeader Config.DIV_LAST [1, 2, cb])) =
    [([1, 2, 0x2A], [1, 2, 0x2B]), ([1, 2, 0x2A], [1, 2, 0x2B]), ([1, 2, 0x2B], [1, 2, 0x2B]),
      ([1, 2, 0x2B], [1, 2, 0x2B])] := by decide
/-- V6: the addressing layer; flags 01 (93_implementation_defined U3). -/
theorem test_addressing : readPayload .b true (some [0x01, 0x02, 0x28, 0xF1]) = .ok .nothingReceived ∧
    readPayload .b true (some [0x01, 0x02, 0x44, 0xF1]) = .ok (.received 0x01 0x02 [0xF1]) ∧
    readPayload .b true (some [0x01, 0x02, 0x45, 0xF1]) = .error .reservedFlags := ⟨rfl, rfl, rfl⟩
/-- 43_orchestrator R267: in the middle of `retry` the host reads the value of the last completed action; R268. -/
theorem test_host :
    [SendPhase.start, .sleep, .reopen].map (fun ph => (nextOf (exec .readCounters
      { sending .retry with sPhase := ph, r1 := 5, r2 := 240 })).map (·.hostOut)) =
      [some [.counters 5 240], some [.counters 5 239], some [.counters 5 239]] ∧
    (nextOf (exec .receive (receiving .data))).map (·.heldReceives) = some 1 := by decide
/-- The first step after reset runs the instruction placed where it is fetched. -/
theorem test_withFetchWord :
    (nextOf (step (State.reset.withFetchWord 5 0))).map (fun t => (t.rState, t.r1, t.rRun)) =
      some (.poll, 0, true) := by decide


/-! ### Witnesses: states and operands that meet all the hypotheses of a statement together, clause by clause -/

/-- A safe state in which the receive engine is about to read STX. -/
def receivingStx : State :=
  { receiving .stx with devIn := [0x02], answers := [ans .success 0], turns := [.engine .recv] }

/-- A state in which the send engine is about to read an answer. -/
def sendingAck : State :=
  { sending .ack with devIn := [0x06], answers := [ans .success 0], turns := [.engine .send] }

/-- DecodeOfEncode, at the ends of the operand ranges. -/
theorem test_witness_decode_of_encode (r e d : Bytes) (hr : r.length = 248) (he : e.length = 1027)
    (hd : d.length = 1024) :
    (Instr.frameReg 0xFF 0 0 r 0).wellFormed = true ∧ (Instr.frameExt 0 0xFF 0 e 0).wellFormed = true ∧
    (Instr.frameDivMore 0 0 0xFE 65535 0 d 0).wellFormed = true ∧
    (Instr.frameDivLast 0 0 0xFF 65534 65535 d 0xFF).wellFormed = true := by
  simp [Instr.wellFormed, hr, he, hd]
  decide
/-- EncodeOfDecodedUnit. -/
theorem test_witness_encode_of_decode : ∃ i, decode (.wire (.frame true) [0x02, 0x05, 1, 2, 3, 0x03, 9]) = .ok i :=
  ⟨_, rfl⟩
/-- IllegalEncodingsAreRefused, lengths: LEN 4 and 255, EXTLEN 4, 11 and 1037. -/
theorem test_witness_illegal_lengths :
    decode (.wire (.frame false) [0x02, 4, 0]) = .error .illegalLen ∧
    decode (.wire (.frame true) [0x02, 0xFF]) = .error .illegalLen ∧
    decode (.wire (.frame false) [0x02, 0xFE, 1, 2, 3, 0, 0, 4]) = .error .illegalExtLen ∧
    decode (.wire (.frame true) [0x02, 0xFE, 1, 2, 3, 0, 0, 11]) = .error .illegalExtLen ∧
    decode (.wire (.frame false) [0x02, 0xFE, 1, 2, 3, 0, 4, 13]) = .error .illegalExtLen := ⟨rfl, rfl, rfl, rfl, rfl⟩
/-- IllegalEncodingsAreRefused, bytes: no control byte, no delimiter, no STX, no ETX in each shape, no division flags. -/
theorem test_witness_illegal_bytes (cs : Byte) :
    decode (.wire .answer [0x07, 5]) = .error .notAControlByte ∧
    decode (.wire .delimiter [0x04]) = .error .notADelimiter ∧
    decode (.wire (.frame true) [0x03, 5]) = .error .noStx ∧
    decode (.wire (.frame false) [0x02, 5, 1, 2, 3, 0x02, cs]) = .error .noEtx ∧
    decode (.wire (.frame false) [0x02, 0xFE, 1, 2, 3, 0, 0, 5, 0x02, cs]) = .error .noEtx ∧
    decode (.wire (.frame true) [0x02, 0xFE, 1, 2, 3, 0, 0, 12, 0, 1, 0, 2, 0x04, cs]) = .error .noEtx ∧
    decode (.wire (.frame true) [0x02, 0xFE, 1, 2, 0x29, 0, 0, 12, 0, 1, 0, 2, 0x03, cs]) = .error .divisionFlags :=
  ⟨rfl, rfl, rfl, rfl, rfl, rfl, rfl⟩
/-- IllegalEncodingsAreRefused: data of every length, the longest of each shape too. -/
theorem test_witness_illegal_longest (n : Nat) : ∃ data : Bytes, data.length = n :=
  ⟨List.replicate n 0, List.length_replicate⟩
/-- IllegalEncodingsAreRefused: cut short after one byte and before the last, left over, and unused ordinals. -/
theorem test_witness_illegal_ends :
    decode (.wire .delimiter []) = .error .emptyUnit ∧
    [1, 6].map (fun k => decode (.wire (.frame false) (([0x02, 5, 1, 2, 3, 0x03, 9] : Bytes).take k))) =
      [.error .truncated, .error .truncated] ∧
    decode (.wire .answer [0x05, 0]) = .error .trailingBytes ∧
    [12, 15].map (fun w => decode (.sendState w)) = [.error .unusedSendOrdinal, .error .unusedSendOrdinal] ∧
    [19, 31].map (fun w => decode (.recvState w)) = [.error .unusedRecvOrdinal, .error .unusedRecvOrdinal] :=
  ⟨rfl, rfl, rfl, rfl, rfl⟩

/-- StepRunsTheDecodedInstruction: turns of an engine, running and not. -/
theorem test_witness_step_engines (run : Bool) :
    (∃ (s : State) (rest : List Turn), s.turns = .engine .send :: rest ∧ s.sRun = run) ∧
    (∃ (s : State) (rest : List Turn), s.turns = .engine .recv :: rest ∧ s.rRun = run) ∧ (∃ s : State, s.turns = []) :=
  ⟨⟨{ sendingAck with sRun := run }, _, rfl, rfl⟩, ⟨{ receivingStx with rRun := run }, _, rfl, rfl⟩,
    ⟨State.reset, rfl⟩⟩
/-- StepRunsTheDecodedInstruction: any other turn, with anything held, the engines running or not, and any result to
collect. -/
theorem test_witness_step_others (t : Turn) (held : List Bytes) (n : Nat) (r : List HostResponse) (sr rr : Bool) :
    (∃ (s : State) (rest : List Turn), s.turns = t :: rest ∧ s.heldSends = held ∧ s.heldReceives = n ∧ s.returns = r ∧
      s.sRun = sr ∧ s.rRun = rr) ∧
    (∃ i, decode (.wire .answer [0x05]) = .ok i) ∧ (∃ e, decode (.wire .answer [0x04]) = .error e) ∧
    (∃ (p : Bytes) (k : Nat), [p][k]? = some p ∧ [p][k + 1]? = none) ∧ ∃ i, decodeTableWord 4 11 = some i :=
  ⟨⟨{ State.reset with turns := [t], heldSends := held, heldReceives := n, returns := r, sRun := sr, rRun := rr }, _,
      rfl, rfl, rfl, rfl, rfl, rfl⟩,
    ⟨_, rfl⟩, ⟨_, rfl⟩, ⟨[1, 2, 3], 0, rfl, rfl⟩, ⟨_, rfl⟩⟩
/-- WaitingEngineChangesNothing: the lock, and calls that have no answer. -/
theorem test_witness_waiting :
    (∃ s : State, s.lockOwner = some .recv) ∧ (∃ s : State, s.lockOwner = some .send ∧ s.rPhase = .lock) ∧
    (∃ s : State, s.answers = [] ∧ s.txCursor.toNat < s.txf.length ∧ s.sPhase = .reopen) ∧
    (∃ s : State, s.answers = [] ∧ s.rPhase ≠ .lock ∧ s.sRun = false ∧ s.rRun = false) :=
  ⟨⟨receiving .poll, rfl⟩, ⟨{ sending .ack with rPhase := .lock }, rfl, rfl⟩,
    ⟨{ sending .retry with txf := [[1]], sPhase := .reopen }, rfl, by decide, rfl⟩, ⟨State.reset, rfl, by decide, rfl, rfl⟩⟩
/-- WaitingEngineChangesNothing: field reads of every shape without an answer, and with a success that the stream cannot
serve, by one byte. -/
theorem test_witness_waiting_fields (sh : Shape) (len : BitVec 24) (n : Nat) :
    (∃ s : State, s.answers = [] ∧ s.rxf ≠ [] ∧ s.rxShape = sh ∧ s.rxLen = len) ∧
    ∃ (s : State) (a : DevAnswer) (rest : List DevAnswer), s.answers = a :: rest ∧ a.status = .success ∧ s.rxf ≠ [] ∧
      s.rxShape = sh ∧ s.rxLen = len ∧ s.deviceOpen = true ∧ s.devIn.length < n + 1 :=
  ⟨⟨{ receiving .data with rxShape := sh, rxLen := len }, rfl, List.cons_ne_nil _ _, rfl, rfl⟩,
    ⟨{ receiving .data with
        answers := [ans .success 0], rxShape := sh, rxLen := len, devIn := List.replicate n 0 },
      _, _, rfl, rfl, List.cons_ne_nil _ _, rfl, rfl, rfl, by simp⟩⟩
/-- SendIdleWaitError, and the phases of SendRetryCountsReleasesReopens: every phase, count and owner of the lock. -/
theorem test_witness_send_phases (ph : SendPhase) (n : BitVec 8) (o : Option Engine) :
    ∃ (s : State) (a : DevAnswer) (rest : List DevAnswer),
      s.sPhase = ph ∧ s.r2 = n ∧ s.lockOwner = o ∧ s.answers = a :: rest :=
  ⟨{ sending .retry with sPhase := ph, r2 := n, lockOwner := o, answers := [ans .error 0] }, _, _, rfl, rfl, rfl, rfl⟩
/-- SendRetryCountsReleasesReopens: the counts at which its clauses meet. -/
theorem test_witness_retry_counts :
    (239 : BitVec 8).toNat + 1 = 240 ∧ (238 : BitVec 8).toNat + 1 < 240 ∧ (234 : BitVec 8).toNat % 6 = 0 ∧
    (235 : BitVec 8).toNat % 6 ≠ 0 := by decide

/-- A receive engine that polls, finds nothing in its drain and polls again, for ever. -/
def polling : Nat → State
  | 0 => { receiving .poll with lockOwner := none, rPhase := .lock }
  | 1 => receiving .enquiry
  | 2 => { receiving .repoll with rEvent := .busy }
  | _ => { receiving .poll with lockOwner := none }
/-- Whose turn it is in that run. -/
def pollingTurn (k : Nat) : Turn := if k = 3 then .engine .send else .engine .recv
/-- The device's answers in that run. -/
def pollingAnswers : Nat → List DevAnswer
  | 1 => [ans .timeout 0]
  | 4 => [ans .success 0]
  | _ => []
/-- One step of that run. -/
theorem polling_step (k : Nat) (hk : k < 5) :
    step { polling k with turns := [pollingTurn k], answers := (polling k).answers ++ pollingAnswers k } =
      .next (polling ((k + 1) % 5)) := by
  interval_cases k <;> rfl
/-- LockIsTakenAndGranted: the lock free, and owned already; a fair schedule with an engine that waits. -/
theorem test_witness_lock_granted :
    (∃ s : State, s.lockOwner = none ∧ s.lockOwner ≠ some .recv) ∧
    (∃ s : State, s.lockOwner = some .send ∧ s.lockOwner ≠ some .recv) ∧
    ∃ (sched : Nat → Turn) (env : Nat → List DevAnswer) (run : Nat → State),
      RunsAs sched env run ∧ ScheduleFair sched run ∧ waitsForLock .recv (run 0) = true ∧
      AgainAndAgain 0 (fun k => (run k).lockOwner = none) := by
  refine ⟨⟨State.reset, rfl, by decide⟩, ⟨sending .enquiry, rfl, by decide⟩, fun n => pollingTurn (n % 5),
    fun n => pollingAnswers (n % 5), fun n => polling (n % 5), ?_, ?_, rfl, ?_⟩
  · intro n
    have h := polling_step (n % 5) (Nat.mod_lt n (by decide))
    rwa [show (n % 5 + 1) % 5 = (n + 1) % 5 by omega] at h
  · intro e n _
    cases e with
    | send =>
      have h : (5 * n + 3) % 5 = 3 := by omega
      exact ⟨5 * n + 3, by omega, by simp only [h]; rfl, by simp only [h]; rfl⟩
    | recv =>
      have h : (5 * n) % 5 = 0 := by omega
      exact ⟨5 * n, by omega, by simp only [h]; rfl, by simp only [h]; rfl⟩
  · intro m _
    have h : (5 * m) % 5 = 0 := by omega
    exact ⟨5 * m, by omega, by simp only [h]; rfl⟩

/-- SendReenquiryDrainsThenWritesEnq and RecvEnquiryClassifiesTheLastByte, a single read or write: every phase, any status,
bytes and no bytes, the device open and closed. -/
theorem test_witness_drain_step (ph : SendPhase) (rp : RecvPhase) (a : DevAnswer) (inp : Bytes) (op : Bool) :
    ∃ (s : State) (rest : List DevAnswer),
      s.sPhase = ph ∧ s.rPhase = rp ∧ s.answers = a :: rest ∧ s.devIn = inp ∧ s.deviceOpen = op :=
  ⟨{ sending .reenquiry with sPhase := ph, rPhase := rp, answers := [a], devIn := inp, deviceOpen := op }, _,
    rfl, rfl, rfl, rfl, rfl⟩
/-- SendReenquiryDrainsThenWritesEnq, the whole action: any stream, the empty one too; any answers but errors of an open
device, and of a closed one successes and a timeout. -/
theorem test_witness_send_drain (inp : Bytes) (op : Bool) (x y : DevStatus)
    (hx : x = .success ∨ op = true ∧ x ≠ .error) (hy : y = .timeout ∨ op = true ∧ y ≠ .error) :
    ∃ (s : State) (oks : List DevAnswer) (a w : DevAnswer) (rest : List DevAnswer) (turns : List Turn),
      s.sRun = true ∧ s.sState = .reenquiry ∧ s.sPhase = .start ∧ s.devIn = inp ∧
      (∀ z ∈ oks, z.status = .success ∨ s.deviceOpen = true ∧ z.status ≠ .error) ∧ oks.length = s.devIn.length ∧
      (a.status = .timeout ∨ s.deviceOpen = true ∧ a.status ≠ .error) ∧ s.answers = oks ++ a :: w :: rest ∧
      s.turns = List.replicate (oks.length + 2) (.engine .send) ++ turns := by
  refine ⟨{ sending .reenquiry with
      devIn := inp, deviceOpen := op, answers := List.replicate inp.length (ans x 0) ++ [ans y 0, ans .success 1],
      turns := List.replicate (inp.length + 2) (.engine .send) },
    List.replicate inp.length (ans x 0), ans y 0, ans .success 1, [], [], rfl, rfl, rfl, rfl, ?_, List.length_replicate, hy,
    rfl, by simp⟩
  intro z hz
  rw [List.eq_of_mem_replicate hz]
  exact hx
/-- RecvEnquiryClassifiesTheLastByte, the whole action: any stream, the empty one too; any answers but errors of an open
device, and of a closed one successes and a timeout. -/
theorem test_witness_recv_drain (inp : Bytes) (op : Bool) (x y : DevStatus)
    (hx : x = .success ∨ op = true ∧ x ≠ .error) (hy : y = .timeout ∨ op = true ∧ y ≠ .error) :
    ∃ (s : State) (oks : List DevAnswer) (a : DevAnswer) (rest : List DevAnswer) (turns : List Turn),
      s.rRun = true ∧ s.rState = .enquiry ∧ s.rPhase = .start ∧ s.devIn = inp ∧
      (∀ z ∈ oks, z.status = .success ∨ s.deviceOpen = true ∧ z.status ≠ .error) ∧ oks.length = s.devIn.length ∧
      (a.status = .timeout ∨ s.deviceOpen = true ∧ a.status ≠ .error) ∧ s.answers = oks ++ a :: rest ∧
      s.turns = List.replicate (oks.length + 1) (.engine .recv) ++ turns := by
  refine ⟨{ receiving .enquiry with
      devIn := inp, deviceOpen := op, answers := List.replicate inp.length (ans x 0) ++ [ans y 0],
      turns := List.replicate (inp.length + 1) (.engine .recv) },
    List.replicate inp.length (ans x 0), ans y 0, [], [], rfl, rfl, rfl, rfl, ?_, List.length_replicate, hy, rfl,
    by simp⟩
  intro z hz
  rw [List.eq_of_mem_replicate hz]
  exact hx
/-- SendAnswerIsClassified, RecvStxAndEtxExpectOneByte, RecvLenFixesOrDefersTheShape, RecvCsComparesTheChecksum,
RecvFieldFailureAborts: a byte read, a timeout, an error, with a buffer in `RXF`. -/
theorem test_witness_one_byte (b : Byte) (st : DevStatus) :
    ∃ (s : State) (a : DevAnswer) (rest : List DevAnswer) (bs : Bytes),
      s.answers = a :: rest ∧ s.rxf ≠ [] ∧ a.status = st ∧ s.devIn = b :: bs :=
  ⟨{ receiving .len with devIn := [b], answers := [ans st 0] }, _, _, _, rfl, List.cons_ne_nil _ _, rfl, rfl⟩
/-- RecvFieldFailureAborts: the shapes and lengths of the states that may be skipped. -/
theorem test_witness_field_failure (st : DevStatus) (sh : Shape) (len : BitVec 24) :
    ∃ (s : State) (a : DevAnswer) (rest : List DevAnswer),
      s.rxf ≠ [] ∧ s.answers = a :: rest ∧ a.status = st ∧ s.rxShape = sh ∧ s.rxLen = len :=
  ⟨{ receiving .data with answers := [ans st 1], rxShape := sh, rxLen := len }, _, _, List.cons_ne_nil _ _,
    rfl, rfl, rfl, rfl⟩
/-- SendFrameAndNakWrite and RecvAckAck2NakWrite: any status and any count. -/
theorem test_witness_write (st : DevStatus) (n : Nat) :
    ∃ (s : State) (a : DevAnswer) (rest : List DevAnswer) (f : Frame),
      s.answers = a :: rest ∧ a.status = st ∧ a.count = n ∧ s.txf[s.txCursor.toNat]? = some f :=
  ⟨{ sending .frame with txf := [[1, 2]], answers := [ans st n] }, _, _, _, rfl, rfl, rfl, rfl⟩
/-- RecvPollAndRepoll. -/
theorem test_witness_poll (st : DevStatus) (o : Option Engine) (ph : RecvPhase) :
    ∃ (s : State) (a : DevAnswer) (rest : List DevAnswer),
      s.rPhase = ph ∧ s.answers = a :: rest ∧ a.status = st ∧ s.lockOwner = o :=
  ⟨{ receiving .poll with lockOwner := o, rPhase := ph, answers := [ans st 0] }, _, _, rfl, rfl, rfl, rfl⟩
/-- RecvHeaderNumbersAndData: header bytes and frame numbers. -/
theorem test_witness_header_numbers :
    (∃ (s : State) (a : DevAnswer) (rest : List DevAnswer),
      s.answers = a :: rest ∧ a.status = .success ∧ s.rxf ≠ [] ∧ 3 ≤ s.devIn.length) ∧
    (∃ s : State, s.rxShape ≠ .divided) ∧
    (∃ (s : State) (a : DevAnswer) (rest : List DevAnswer) (bs : Bytes), s.answers = a :: rest ∧
      a.status = .success ∧ s.rxf ≠ [] ∧ s.rxShape = .divided ∧ s.devIn = 0xFF :: 0xFF :: 0 :: 1 :: bs) :=
  ⟨⟨{ receiving .datacmd with devIn := [1, 2, 3], answers := [ans .success 0] }, _, _, rfl, rfl, by decide, by decide⟩,
    ⟨receiving .dataframenumber, by decide⟩,
    ⟨{ receiving .dataframenumber with rxShape := .divided, devIn := [0xFF, 0xFF, 0, 1], answers := [ans .success 0] },
      _, _, _, rfl, rfl, by decide, rfl, rfl⟩⟩
/-- RecvHeaderNumbersAndData: any number of data bytes of each shape. -/
theorem test_witness_data (n : Nat) (hn : n ≤ 1027) (sh : Shape) (k : Nat)
    (h : (sh = .regular ∨ sh = .extended) ∧ k = 5 ∨ sh = .divided ∧ k = 12) :
    ∃ (s : State) (a : DevAnswer) (rest : List DevAnswer),
      ((s.rxShape = .regular ∨ s.rxShape = .extended) ∧ s.rxLen.toNat = n + 5 ∨
        s.rxShape = .divided ∧ s.rxLen.toNat = n + 12) ∧
      s.answers = a :: rest ∧ a.status = .success ∧ s.rxf ≠ [] ∧ n ≤ s.devIn.length := by
  refine ⟨{ receiving .data with
      rxShape := sh, rxLen := BitVec.ofNat 24 (n + k), devIn := List.replicate n 7, answers := [ans .success 0] }, _, _,
    ?_, rfl, rfl, List.cons_ne_nil _ _, by simp⟩
  have hl : (BitVec.ofNat 24 (n + k)).toNat = n + k := by
    rw [BitVec.toNat_ofNat]
    omega
  simpa only [hl, Nat.add_left_cancel_iff] using h
/-- RecvDataextlenSelectsTheShape: any three bytes, with one buffer and with two. -/
theorem test_witness_dataextlen (e2 e1 e0 : Byte) (f : List Frame) :
    (∃ s : State, s.rxShape = .regular) ∧
    ∃ (s : State) (a : DevAnswer) (rest : List DevAnswer) (bs : Bytes), s.rxShape ≠ .regular ∧
      s.answers = a :: rest ∧ a.status = .success ∧ s.rxf ≠ [] ∧ s.rxf = f ++ [[]] ∧
      s.devIn = e2 :: e1 :: e0 :: bs :=
  ⟨⟨{ receiving .dataextlen with rxShape := .regular }, rfl⟩,
    ⟨{ receiving .dataextlen with
        rxf := f ++ [[]], rxShape := .extPending, devIn := [e2, e1, e0], answers := [ans .success 0] },
      _, _, _, nofun, rfl, rfl, by simp, rfl, rfl⟩⟩
/-- RecvRetryAndDone. -/
theorem test_witness_rRetry : ∃ s : State, s.rxf ≠ [] := ⟨receiving .retry, by decide⟩

/-- A receive engine at `end` with one frame collected. -/
def receivedOne : State :=
  { receiving .end_ with
    rxf := [buffered ++ [0]], rxShape := .regular, rxLen := 8, rxOk := true, turns := [.engine .recv] }

/-- The receive invariant holds there. -/
theorem receivedOne_inv : RxInv receivedOne :=
  ⟨fun _ => by decide, fun _ => by decide, fun _ _ => ⟨rfl, rfl, by decide, by decide⟩⟩
/-- RecvEndReturnsThePayload. -/
theorem test_witness_rEnd : (∃ s : State, s.rxOk = false) ∧
    ∃ s : State, s.rxOk = true ∧ RxInv s ∧ s.rRun = true ∧ s.rState = .end_ :=
  ⟨⟨receiving .end_, rfl⟩, receivedOne, rfl, receivedOne_inv, rfl, rfl⟩

/-- BuildRegularFrame, BuildExtendedFrame, BuildDividedFrames, BuildFramesChoosesBySize, RefusedRequests, CodecRoundTrip:
there is a payload, and a payload after a header, of every size, on both sides of every limit. -/
theorem test_witness_sizes : (∀ n : Nat, ∃ p : Bytes, p.length = n) ∧ 3 ≤ Config.maxPayload ∧
    Config.maxPayload ≤ 3 + 65535 * 1024 :=
  ⟨fun n => ⟨List.replicate n 0, List.length_replicate⟩, Config.maxPayload_bounds.1,
    by have h := Config.maxPayload_bounds.2; rwa [Config.formatMax_eq] at h⟩
/-- ParseDividedFrames: the shortest frames of its domain. -/
theorem test_witness_parse_divided :
    ∃ (f0 : Frame) (rest : List Frame), 14 ≤ f0.length ∧
      (∀ f ∈ rest, if f[1]? = some 0xFE then 14 ≤ f.length else 7 ≤ f.length) ∧ rest ≠ [] :=
  ⟨[0x02, 0xFE, 1, 2, 3, 0, 0, 12, 0, 0, 0, 2, 0x03, 9],
    [[0x02, 0xFE, 1, 2, 3, 0, 0, 12, 0, 0, 0, 2, 0x03, 9], [0x02, 0x05, 1, 2, 3, 0x03, 9]], by decide, by decide, by decide⟩
/-- ParseFramesChoosesByFirstFrame: one list for each shape. -/
theorem test_witness_parse_frames :
    framesFit [[0x02, 0x02, 0x03, 9]] = true ∧ framesFit [[0x02, 0xFE, 1, 2, 3, 0, 0, 5, 0x03, 9]] = true ∧
    framesFit [[0x02, 0xFE, 1, 2, 3, 0, 4, 9, 0, 0, 0, 1, 0x03, 9]] = true ∧
    framesFit [[0x02, 0xFE, 1, 2, 3, 0, 0, 12, 0, 0, 0, 2, 0x03, 9], [0x02, 0x05, 1, 2, 3, 0x03, 9]] = true := by decide
/-- RefusedRequests: lists outside the domain of the parse operations. -/
theorem test_witness_parse_refused :
    framesFit [[2, 5, 3]] = false ∧ framesFit [[0x02, 0xFE, 1, 2, 3, 0, 0, 5, 0x03]] = false ∧
    framesFit [[0x02, 0x02, 0x03, 9], [0x02, 0xFE]] = false ∧ framesFit [[0x02, 0x02, 0x03, 9], [0x02, 0x02, 0x03]] = false ∧
    dividedListFits [[0x02, 0xFE, 1, 2, 3, 0, 0, 12, 0, 0, 0, 2, 0x03]] = false ∧
    (∃ f : Frame, f[1]? = some 0xFE ∧ f.length < 10) ∧
    (∃ f g : Frame, f[1]? ≠ some 0xFE ∧ (g[1]? = some 0xFE ∨ g.length < 4)) :=
  ⟨by decide, by decide, by decide, by decide, by decide, ⟨[2, 0xFE], by decide, by decide⟩,
    [2, 5, 3], [], by decide, .inr (by decide)⟩

/-- Every payload that the format can carry has frames, and a first one. -/
theorem buildFrames_some (p : Bytes) (h : p.length ≤ Config.formatMax) :
    ∃ fs f, buildFrames p = some fs ∧ fs[0]? = some f ∧ f ∈ fs := by
  suffices hs : ∃ fs, buildFrames p = some fs ∧ fs ≠ [] by
    obtain ⟨fs, hb, hn⟩ := hs
    cases fs with
    | nil => exact absurd rfl hn
    | cons f r => exact ⟨f :: r, f, hb, rfl, by simp⟩
  by_cases h1 : p.length ≤ Config.regMax
  · exact ⟨[regularFrame p], by simp only [buildFrames, buildRegular, if_pos h1], by simp⟩
  · by_cases h2 : p.length ≤ Config.extMax
    · refine ⟨[extendedFrame p], ?_, by simp⟩
      simp only [buildFrames, buildExtended, if_neg h1, if_pos h2, if_pos (And.intro (Nat.lt_of_not_le h1) h2)]
    · refine ⟨dividedFrames p, by simp only [buildFrames, buildDivided, if_neg h1, if_neg h2, if_pos h], ?_⟩
      simp only [Config.extMax_eq] at h2
      simp [dividedFrames, frameCount]
      omega
/-- CodecRoundTrip, BuiltFrameEndsInItsChecksum, BuiltFrameLengths, BuiltFramesDecode: a payload of any size the format can
carry, with any codebit, has frames. -/
theorem test_witness_built (n : Nat) (cb : Byte) (h3 : 3 ≤ n) (hn : n ≤ 67107843) :
    ∃ (cmd sub : Byte) (data : Bytes) (fs : List Frame) (f : Frame), data.length + 3 = n ∧
      buildFrames ([cmd, sub, cb] ++ data) = some fs ∧ fs[0]? = some f ∧ f ∈ fs := by
  have hl : ([(1 : Byte), 2, cb] ++ List.replicate (n - 3) (0 : Byte)).length = n := by
    rw [List.length_append, List.length_replicate]
    simp only [List.length_cons, List.length_nil]
    omega
  obtain ⟨fs, f, hb, h0, hf⟩ := buildFrames_some ([1, 2, cb] ++ List.replicate (n - 3) 0) (by rw [hl]; simpa using hn)
  exact ⟨1, 2, _, fs, f, by rw [List.length_replicate]; omega, hb, h0, hf⟩
/-- ConstructAndDestruct, SendAndReceiveStartOrAreHeld, ReadCountersHasNoSideEffect, RefusedRequests: any combination of
existing, sending and receiving. -/
theorem test_witness_host (c sr rr : Bool) :
    ∃ (s : State) (a : DevAnswer) (rest : List DevAnswer), s.constructed = c ∧ s.sRun = sr ∧ s.rRun = rr ∧
      s.answers = a :: rest :=
  ⟨{ State.reset with constructed := c, sRun := sr, rRun := rr, answers := [ans .error 0] }, _, _, rfl, rfl, rfl, rfl⟩
/-- The results that the calls of the next run have left. -/
def refusedResults : Nat → List HostResponse
  | 0 => []
  | c + 1 => refusedResults c ++ [.receiveResult false none]
/-- A `receive` that has failed, for the time number `c`, and is about to end. -/
def refused (c : Nat) : State :=
  { State.reset with
    sRun := true, rRun := true, rState := .end_, rxf := [[]], rxLen := Config.freeLen (2 * c + 1),
    rxFrameNo := Config.freeFrameNo (2 * c + 1), rxFrameCnt := Config.freeFrameCnt (2 * c + 1), freeCount := 2 * c + 2,
    returns := refusedResults c }
/-- It ends with another request held, which is taken. -/
def refusedAgain (c : Nat) : State :=
  callReturns (.receiveResult false none) (endReceive { refused c with heldReceives := 1 })
/-- The next call, which meets an error at its poll. -/
def polled (c : Nat) : State := recvEmit .idle .pass (startReceive { refusedAgain c with heldReceives := 0 })
/-- A run in which every `receive` fails at its poll and another one is held meanwhile, for ever: its moment `6 c + i`. -/
def refusing (c : Nat) : Nat → State
  | 0 => refused c
  | 1 => { refused c with heldReceives := 1 }
  | 2 => refusedAgain c
  | 3 => startReceive { refusedAgain c with heldReceives := 0 }
  | 4 => polled c
  | _ => recvEmit .poll .fail (polled c)
/-- Whose turn it is in that run. -/
def refusingTurn : Nat → Turn
  | 0 => .host .receive
  | 2 => .heldReceive
  | _ => .engine .recv
/-- The device's answers in that run. -/
def refusingAnswers (i : Nat) : List DevAnswer := if i = 4 then [ans .error 0] else []
/-- One step of that run. -/
theorem refusing_step (c i : Nat) (hi : i < 6) :
    step { refusing c i with turns := [refusingTurn i], answers := (refusing c i).answers ++ refusingAnswers i } =
      .next (if i = 5 then refusing (c + 1) 0 else refusing c (i + 1)) := by
  interval_cases i <;> rfl
/-- The send engine of that run is in the middle of a call of its own. -/
theorem refusing_sRun (c i : Nat) : (refusing c i).sRun = true := by unfold refusing; split <;> rfl
/-- SendAndReceiveStartOrAreHeld: a held request, taken and not taken, and an endless run with the oldest first, a request
held and its engine free again and again. -/
theorem test_witness_held :
    (∃ (s t : State) (u : Turn) (rest : List Turn), s.turns = u :: rest ∧ step s = .next t ∧
      s.heldSends[0]? = some [1, 2, 3] ∧ heldNext .send u s t 0 = some 0 ∧ 0 < s.heldReceives ∧
      heldNext .recv u s t 0 = none) ∧
    (∃ (s t : State) (u : Turn), heldNext .send u s t 0 = none) ∧
    ∃ (sched : Nat → Turn) (env : Nat → List DevAnswer) (run : Nat → State),
      RunsAs sched env run ∧ OldestFirst sched run ∧ 0 < heldCount .recv (run 1) ∧
      AgainAndAgain 1 (fun m => engineFree .recv (run m) = true) := by
  have free (c : Nat) : (6 * c + 2) % 6 = 2 ∧ (6 * c + 2) / 6 = c := by omega
  refine ⟨⟨{ State.reset with turns := [.heldReceive], heldSends := [[1, 2, 3]], heldReceives := 1 }, _, _, _, rfl, rfl,
      rfl, rfl, by decide, rfl⟩, ⟨State.reset, State.reset, .heldSend 0, rfl⟩,
    fun n => refusingTurn (n % 6), fun n => refusingAnswers (n % 6), fun n => refusing (n / 6) (n % 6), ?_, ?_, by decide, ?_⟩
  · intro n
    have h := refusing_step (n / 6) (n % 6) (Nat.mod_lt n (by decide))
    by_cases h5 : n % 6 = 5
    · rw [if_pos h5] at h
      dsimp only
      rwa [show (n + 1) / 6 = n / 6 + 1 by omega, show (n + 1) % 6 = 0 by omega]
    · rw [if_neg h5] at h
      dsimp only
      rwa [show (n + 1) / 6 = n / 6 by omega, show (n + 1) % 6 = n % 6 + 1 by omega]
  · intro e n hf
    cases e with
    | recv =>
      refine ⟨6 * n + 2, by omega, ?_, ?_⟩ <;> simp only [(free n).1, (free n).2] <;> rfl
    | send =>
      obtain ⟨k, -, hk⟩ := hf n (Nat.le_refl n)
      exact absurd hk (by simp [engineFree, refusing_sRun])
  · intro m _
    refine ⟨6 * m + 2, by omega, ?_⟩
    simp only [(free m).1, (free m).2]
    rfl
/-- ReadCountersHasNoSideEffect: a step of `retry` that leaves the action unfinished. -/
theorem test_witness_unfinished : ∃ (s t : State) (rest : List Turn), s.turns = .engine .send :: rest ∧ s.sRun = true ∧
    step s = .next t ∧ t.sPhase ≠ .start ∧ t.r2 ≠ s.r2 :=
  ⟨{ sending .retry with turns := [.engine .send] }, _, _, rfl, rfl, rfl, by decide, by decide⟩

/-- The lock invariant holds while the send engine reads an answer, and while the receive engine reads STX. -/
theorem sendingAck_lock : LockInv sendingAck := by constructor <;> decide
theorem receivingStx_lock : LockInv receivingStx := by constructor <;> decide
/-- EveryStepKeepsLockOwnership: a step that releases the lock. -/
theorem test_witness_lock : ∃ s t : State, LockInv s ∧ step s = .next t ∧ t.lockOwner ≠ s.lockOwner :=
  ⟨{ sending .wait with turns := [.engine .send] }, _, by constructor <;> decide, rfl, by decide⟩
/-- EveryStepKeepsCounterRanges: the step to 240. -/
theorem test_witness_counters : ∃ s t : State, CounterInv s ∧ step s = .next t ∧ t.r2 = 240 :=
  ⟨{ sending .retry with r2 := 239, turns := [.engine .send] }, _,
    ⟨by decide, fun _ => by decide, by decide, fun h => by cases h.1⟩, rfl, rfl⟩

/-- A complete frame of the smallest size. -/
theorem smallest_complete : CompleteFrame (regularFrame [1, 2, 3]) :=
  ⟨by decide, by decide, [5, 1, 2, 3], rfl⟩
/-- EveryStepKeepsTransmitContext: two frames, the cursor moves. -/
theorem test_witness_tx : ∃ s t : State, TxInv s ∧ step s = .next t ∧ t.txCursor = 1 :=
  ⟨{ sending .done with txf := [regularFrame [1, 2, 3], regularFrame [1, 2, 3]], turns := [.engine .send] }, _,
    ⟨fun _ => by decide, fun _ => by decide, fun _ f hf => by
      have : f = regularFrame [1, 2, 3] := by simpa [sending] using hf
      rw [this]; exact smallest_complete⟩, rfl, rfl⟩
/-- EveryStepKeepsReceiveContext: STX is read. -/
theorem test_witness_rx : ∃ s t : State, RxInv s ∧ step s = .next t ∧ t.rxf = [[0x02]] :=
  ⟨receivingStx, _, ⟨fun _ => by decide, fun _ => by decide, fun _ => rfl⟩, rfl, rfl⟩
/-- NoFaultInsideTheInvariants. -/
theorem test_witness_no_fault : ∃ (s : State) (rest : List Turn), TxInv s ∧ RxInv s ∧ s.turns = .engine .recv :: rest :=
  ⟨receivedOne, _, ⟨nofun, nofun, nofun⟩, receivedOne_inv, rfl⟩
/-- EnginesFollowTheirTables, EnginesKeepApart, DeviceOnlyUnderTheLock, RetryCountersMoveOnlyInIdleAndRetry: a step of each
engine that reads the input stream and emits an event, and a step of the environment. -/
theorem test_witness_engine_steps :
    (∃ (s t : State) (rest : List Turn), LockInv s ∧ s.turns = .engine .send :: rest ∧ s.sRun = true ∧
      step s = .next t ∧ t.devIn ≠ s.devIn) ∧
    (∃ (s t : State) (rest : List Turn), LockInv s ∧ s.turns = .engine .recv :: rest ∧ s.rRun = true ∧
      step s = .next t ∧ t.devIn ≠ s.devIn) ∧
    (∃ (s t : State) (u : Turn) (rest : List Turn), s.turns = u :: rest ∧ (∀ e, u ≠ .engine e) ∧
      u ≠ .host .construct ∧ step s = .next t) :=
  ⟨⟨sendingAck, _, _, sendingAck_lock, rfl, rfl, rfl, by decide⟩,
    ⟨receivingStx, _, _, receivingStx_lock, rfl, rfl, rfl, by decide⟩,
    ⟨{ State.reset with turns := [.arrive [1]] }, _, _, _, rfl, nofun, nofun, rfl⟩⟩
/-- EnginesFollowTheirTables: turns of the send engine that wait, that leave the action unfinished and that end the call. -/
theorem test_witness_send_table :
    (∃ (s t : State) (rest : List Turn), s.turns = .engine .send :: rest ∧ s.sRun = true ∧ step s = .next t ∧
      t = { s with turns := rest }) ∧
    (∃ (s t : State) (rest : List Turn), s.turns = .engine .send :: rest ∧ s.sRun = true ∧ step s = .next t ∧
      s.sState = .wait ∧ t.sState = .wait ∧ t ≠ { s with turns := rest }) ∧
    (∃ (s t : State) (rest : List Turn), s.turns = .engine .send :: rest ∧ s.sRun = true ∧ step s = .next t ∧
      s.sState = .end_ ∧ t.sRun = false) :=
  ⟨⟨{ sending .ack with turns := [.engine .send] }, _, _, rfl, rfl, rfl, rfl⟩,
    ⟨{ sending .wait with turns := [.engine .send] }, _, _, rfl, rfl, rfl, rfl, rfl, by decide⟩,
    ⟨{ sending .end_ with turns := [.engine .send] }, _, _, rfl, rfl, rfl, rfl, rfl⟩⟩
/-- EnginesFollowTheirTables: the same for the receive engine. -/
theorem test_witness_recv_table :
    (∃ (s t : State) (rest : List Turn), s.turns = .engine .recv :: rest ∧ s.rRun = true ∧ step s = .next t ∧
      t = { s with turns := rest }) ∧
    (∃ (s t : State) (rest : List Turn), s.turns = .engine .recv :: rest ∧ s.rRun = true ∧ step s = .next t ∧
      s.rState = .enquiry ∧ t.rState = .enquiry ∧ t ≠ { s with turns := rest }) ∧
    (∃ (s t : State) (rest : List Turn), s.turns = .engine .recv :: rest ∧ s.rRun = true ∧ step s = .next t ∧
      s.rState = .end_ ∧ t.rRun = false) :=
  ⟨⟨{ receiving .ack with turns := [.engine .recv] }, _, _, rfl, rfl, rfl, rfl⟩,
    ⟨{ receivingStx with rState := .enquiry }, _, _, rfl, rfl, rfl, rfl, rfl, by decide⟩,
    ⟨{ receiving .end_ with turns := [.engine .recv] }, _, _, rfl, rfl, rfl, rfl, rfl⟩⟩
/-- DeviceOnlyUnderTheLock: the calls without the lock, the open of `retry` and the poll of `poll`. -/
theorem test_witness_device_without_lock :
    (∃ (s t : State) (rest : List Turn), LockInv s ∧ s.turns = .engine .send :: rest ∧ step s = .next t ∧
      t.answers ≠ s.answers ∧ s.lockOwner = none) ∧
    (∃ (s t : State) (rest : List Turn), LockInv s ∧ s.turns = .engine .recv :: rest ∧ step s = .next t ∧
      t.answers ≠ s.answers ∧ s.lockOwner = none) :=
  ⟨⟨{ sending .retry with
        sPhase := .reopen, lockOwner := none, answers := [ans .error 0], turns := [.engine .send] }, _, _,
      by constructor <;> decide, rfl, rfl, by decide, rfl⟩,
    ⟨{ receiving .poll with lockOwner := none, answers := [ans .error 0], turns := [.engine .recv] }, _, _,
      by constructor <;> decide, rfl, rfl, by decide, rfl⟩⟩
/-- ACallKeepsItsFramesAndEndsAtEnd: a step inside a call, and the ends of both calls. -/
theorem test_witness_call :
    (∃ s t : State, step s = .next t ∧ s.sRun = true ∧ t.sRun = true) ∧
    (∃ s t : State, step s = .next t ∧ s.sRun = true ∧ t.sRun = false) ∧
    (∃ s t : State, step s = .next t ∧ s.rRun = true ∧ t.rRun = false) :=
  ⟨⟨sendingAck, _, rfl, rfl, rfl⟩, ⟨{ sending .end_ with turns := [.engine .send] }, _, rfl, rfl, rfl⟩,
    ⟨{ receiving .end_ with turns := [.engine .recv] }, _, rfl, rfl, rfl⟩⟩
/-- CleanSendSucceeds: a payload of three bytes. -/
theorem test_witness_clean_send : ∃ (s : State) (p : Bytes) (fs : List Frame) (turns : List Turn)
    (answers : List DevAnswer), s.constructed = true ∧ s.sRun = false ∧ s.lockOwner = none ∧ s.devIn = [] ∧
    s.returns = [] ∧ 3 ≤ p.length ∧ p.length ≤ Config.maxPayload ∧ buildFrames p = some fs ∧
    s.turns = .host (.send p) :: .engine .send :: .engine .send ::
      (fs.flatMap (fun _ => cleanFrameTurns) ++ .engine .send :: .collect 0 :: turns) ∧
    s.answers = fs.flatMap cleanFrameAnswers ++ answers :=
  ⟨{ State.reset with
      turns := .host (.send [1, 2, 3]) :: .engine .send :: .engine .send ::
        (cleanFrameTurns ++ [.engine .send, .collect 0]),
      answers := cleanFrameAnswers (regularFrame [1, 2, 3]) },
    [1, 2, 3], [regularFrame [1, 2, 3]], [], [], rfl, rfl, rfl, rfl, rfl, by decide, Config.maxPayload_bounds.1, rfl,
    by simp, by simp⟩
/-- SilentDeviceFailsAfter240Attempts: any stale bytes and any opens. -/
theorem test_witness_silent (inp : Bytes) (opens : Nat → DevAnswer) :
    ∃ (s : State) (turns : List Turn) (answers : List DevAnswer),
    s.sRun = true ∧ s.sState = .idle ∧ s.sPhase = .start ∧ s.lockOwner = none ∧ s.devIn = inp ∧
    s.turns = List.replicate (1520 + staleTotal s.devIn opens) (.engine .send) ++ turns ∧
    s.answers =
      (List.range 240).flatMap (fun k => silentAttempt (staleBytes s.devIn opens k) (k + 1) (opens k)) ++ answers :=
  ⟨{ sending .idle with
      lockOwner := none, devIn := inp, turns := List.replicate (1520 + staleTotal inp opens) (.engine .send) ++ [],
      answers :=
        (List.range 240).flatMap (fun k => silentAttempt (staleBytes inp opens k) (k + 1) (opens k)) ++ [] },
    [], [], rfl, rfl, rfl, rfl, rfl, rfl, rfl⟩

/-- The turns of CleanReceiveOfARegularFrame, with nothing after them. -/
def cleanReceiveTurns (data : Bytes) : List Turn :=
  .host .receive :: .engine .recv :: .unit .answer [0x05] ::
    (List.replicate 5 (.engine .recv) ++
    .unit (.frame false) ([0x02] ++ regularBody 1 2 3 data ++ [Config.checksum (regularBody 1 2 3 data)]) ::
    (List.replicate 11 (.engine .recv) ++ .collect 0 :: []))
/-- The answers of CleanReceiveOfARegularFrame, with nothing after them. -/
def cleanReceiveAnswers (data : Bytes) : List DevAnswer :=
  [answer .success 0, answer .success 0, answer .timeout 0, answer .success 1] ++
    List.replicate (if data = [] then 5 else 6) (answer .success 0) ++ answer .success 1 :: []
/-- CleanReceiveOfARegularFrame: no data, and the most data. -/
theorem test_witness_clean_receive (n : Nat) (h : n = 0 ∨ n = 248) :
    ∃ (s : State) (data : Bytes), data.length = n ∧ data.length ≤ 248 ∧ s.constructed = true ∧ s.rRun = false ∧
      s.lockOwner = none ∧ s.devIn = [] ∧ s.returns = [] ∧ s.turns = cleanReceiveTurns data ∧
      s.answers = cleanReceiveAnswers data :=
  ⟨{ State.reset with
      turns := cleanReceiveTurns (List.replicate n 0), answers := cleanReceiveAnswers (List.replicate n 0) },
    List.replicate n 0, List.length_replicate, by rw [List.length_replicate]; omega, rfl, rfl, rfl, rfl, rfl, rfl, rfl⟩

/-- A dual-channel pair whose two instances are in given states. -/
def dualLayer (tx rx : State) : Layer := ⟨.b, .dual tx rx⟩

/-- AddressingLayer: transports that exist and are idle, of a pair and of a single channel, with results to collect. -/
theorem test_witness_layer (ch : State → Channels) (h : ch = .single ∨ ch = .dual State.reset) (r : HostResponse) :
    (∃ l : Layer, l.receiver.constructed = true ∧ l.receiver.rRun = false ∧ l.receiver.returns = [r]) ∧
    (∃ l : Layer, l.sender.constructed = true ∧ l.sender.sRun = false ∧ l.sender.returns = [r] ∧
      [1, 2, codebitOut l.peer].length ≤ Config.maxPayload) := by
  refine ⟨⟨⟨.b, ch { State.reset with returns := [r] }⟩, ?_⟩,
    ⟨dualLayer { State.reset with returns := [r] } State.reset, rfl, rfl, rfl, Config.maxPayload_bounds.1⟩⟩
  rcases h with rfl | rfl <;> exact ⟨rfl, rfl, rfl⟩
/-- AddressingLayer: a step of each instance, and a request on the wrong one. -/
theorem test_witness_layer_steps :
    (∃ l e : Layer, l.stepSender = .next e) ∧ (∃ l e : Layer, l.stepReceiver = .next e) ∧
    (∃ (tx : State) (rest : List Turn), tx.turns = .host .receive :: rest) ∧
    (∃ (rx : State) (p : Bytes) (rest : List Turn), rx.turns = .host (.send p) :: rest) ∧
    ∃ cb : Byte, cb.toNat % 4 = 1 :=
  ⟨⟨dualLayer sendingAck receivingStx, _, rfl⟩, ⟨dualLayer sendingAck receivingStx, _, rfl⟩,
    ⟨{ State.reset with turns := [.host .receive] }, _, rfl⟩,
    ⟨{ State.reset with turns := [.host (.send [1, 2, 3])] }, _, _, rfl⟩, 0x29, by decide⟩

end Sys2Proof.Tests
end

section
/-! SUPPORT. The state after construction (10_state R47, 70_reset_and_hazards R351). -/

namespace Sys2Proof.Machine

/-- The Transmit Context is bound to nothing while no `send` runs (10_state R46). -/
theorem txInv_of_stopped {s : State} (h : s.sRun = false) : TxInv s := by
  constructor <;> simp [h]

/-- The Receive Context is bound to nothing while no `receive` runs (10_state R46). -/
theorem rxInv_of_stopped {s : State} (h : s.rRun = false) : RxInv s := by
  constructor <;> simp [h]

/-- With both engines stopped, lock ownership says that nobody owns the lock. -/
theorem lockInv_of_stopped {s : State} (hs : s.sRun = false) (hr : s.rRun = false) (ho : s.lockOwner = none) :
    LockInv s := by
  constructor <;> simp [hs, hr, ho]

/-- With both engines stopped, the counters need only lie in their ranges. -/
theorem counterInv_of_stopped {s : State} (hs : s.sRun = false) (hr : s.rRun = false)
    (h2 : s.r2.toNat ≤ Config.sendRetryLimit) (h1 : s.r1.toNat ≤ Config.recvRetryLimit) : CounterInv s where
  r2 := h2
  r2Trying := fun ⟨hrun, _⟩ => by simp [hs] at hrun
  r1 := h1
  r1Trying := fun ⟨hrun, _⟩ => by simp [hr] at hrun

/-- Settles O7: each register has its value in the definition of the state after construction. -/
theorem constructionValues : Obligations.ConstructionValues := by
  unfold Obligations.ConstructionValues
  exact ⟨rfl, rfl, rfl, rfl, rfl, rfl, rfl, rfl⟩

/-- Settles O8: both engines are stopped, the lock is free and the counters are 0. -/
theorem resetIsSafe : Obligations.ResetIsSafe where
  lock := lockInv_of_stopped rfl rfl rfl
  counters := counterInv_of_stopped rfl rfl (Nat.zero_le _) (Nat.zero_le _)
  tx := txInv_of_stopped rfl
  rx := rxInv_of_stopped rfl

end Sys2Proof.Machine
end

section
/-! SUPPORT. The two engines side by side: what the registers of one engine are, which turns can move them, and how a
call starts and ends (10_state R20 to R40, 43_orchestrator R262 to R271). -/

namespace Sys2Proof.Machine

/-! ### The registers of one engine -/

/-- The registers of the send engine, its frame store and its counter (10_state R20, R26, R37, R38). -/
structure SendRegs where
  sState : SendState
  sRun : Bool
  sEvent : Event
  sPhase : SendPhase
  txf : List Frame
  txCursor : BitVec 16
  txOk : Bool
  txPayload : Bytes
  r2 : BitVec 8

/-- The registers of the receive engine, its frame store and its counter (10_state R20, R30 to R37, R39). -/
structure RecvRegs where
  rState : RecvState
  rRun : Bool
  rEvent : Event
  rPhase : RecvPhase
  rxf : List Frame
  rxShape : Shape
  rxLen : BitVec 24
  rxFrameNo : BitVec 16
  rxFrameCnt : BitVec 16
  rxOk : Bool
  rxPayload : Option Bytes
  r1 : BitVec 3

/-- What the state holds for the send engine alone. -/
def sendRegs (s : State) : SendRegs :=
  ⟨s.sState, s.sRun, s.sEvent, s.sPhase, s.txf, s.txCursor, s.txOk, s.txPayload, s.r2⟩

/-- What the state holds for the receive engine alone. -/
def recvRegs (s : State) : RecvRegs :=
  ⟨s.rState, s.rRun, s.rEvent, s.rPhase, s.rxf, s.rxShape, s.rxLen, s.rxFrameNo, s.rxFrameCnt, s.rxOk, s.rxPayload,
    s.r1⟩

/-- The registers of the send engine, one by one. -/
theorem sendRegs_eq_iff {s t : State} :
    sendRegs t = sendRegs s ↔ t.sState = s.sState ∧ t.sRun = s.sRun ∧ t.sEvent = s.sEvent ∧ t.sPhase = s.sPhase ∧
      t.txf = s.txf ∧ t.txCursor = s.txCursor ∧ t.txOk = s.txOk ∧ t.txPayload = s.txPayload ∧ t.r2 = s.r2 :=
  SendRegs.mk.injEq .. ▸ Iff.rfl

/-- The registers of the receive engine, one by one. -/
theorem recvRegs_eq_iff {s t : State} :
    recvRegs t = recvRegs s ↔ t.rState = s.rState ∧ t.rRun = s.rRun ∧ t.rEvent = s.rEvent ∧ t.rPhase = s.rPhase ∧
      t.rxf = s.rxf ∧ t.rxShape = s.rxShape ∧ t.rxLen = s.rxLen ∧ t.rxFrameNo = s.rxFrameNo ∧
      t.rxFrameCnt = s.rxFrameCnt ∧ t.rxOk = s.rxOk ∧ t.rxPayload = s.rxPayload ∧ t.r1 = s.r1 :=
  RecvRegs.mk.injEq .. ▸ Iff.rfl

/-! ### What a move of one engine leaves to the other -/

/-- No move of the send engine touches a register of the receive engine (10_state R20). -/
theorem SendMove.keeps_recvRegs {s t : State} (h : SendMove s t) : recvRegs t = recvRegs s := by
  cases h <;> rfl

/-- All that `len` does with its byte (42_receive_fsm R211). -/
theorem lenByte_cases (b : Byte) (s : State) :
    (b = Config.EXT_LEN ∧ lenByte b s = recvEmit .len .pass { s with rxShape := .extPending }) ∨
    (b ≠ Config.EXT_LEN ∧ Config.regLenMin ≤ b.toNat ∧ b.toNat ≤ Config.regLenMax ∧
      lenByte b s = recvEmit .len .pass { s with rxShape := .regular, rxLen := b.setWidth 24 }) ∨
    lenByte b s = recvEmit .len .deny s := by
  unfold lenByte
  split
  · next hb => exact .inl ⟨hb, rfl⟩
  · next hb =>
    split
    · next hl => exact .inr (.inl ⟨hb, hl.1, hl.2, rfl⟩)
    · exact .inr (.inr rfl)

/-- All that `dataextlen` does with its three bytes (42_receive_fsm R213, R214). -/
theorem extLenBytes_cases (bs : Bytes) (s : State) :
    (selectsDivided s.midDivision (unbe bs) = true ∧ Config.divOverhead ≤ unbe bs ∧
      unbe bs ≤ Config.divOverhead + Config.chunkMax ∧
      extLenBytes bs s =
        recvEmit .dataextlen .pass { s with rxLen := BitVec.ofNat 24 (unbe bs), rxShape := .divided }) ∨
    (selectsDivided s.midDivision (unbe bs) = false ∧ Config.extOverhead ≤ unbe bs ∧
      extLenBytes bs s =
        recvEmit .dataextlen .pass { s with rxLen := BitVec.ofNat 24 (unbe bs), rxShape := .extended }) ∨
    extLenBytes bs s = recvEmit .dataextlen .deny { s with rxLen := BitVec.ofNat 24 (unbe bs) } := by
  unfold extLenBytes
  dsimp only
  split
  · next hsel =>
    split
    · exact .inr (.inr rfl)
    · next hr =>
      obtain ⟨hmin, hmax⟩ := not_or.mp hr
      exact .inl ⟨hsel, Nat.le_of_not_lt hmin, Nat.le_of_not_lt hmax, rfl⟩
  · next hsel =>
    split
    · exact .inr (.inr rfl)
    · next hr => exact .inr (.inl ⟨eq_false_of_ne_true hsel, Nat.le_of_not_lt hr, rfl⟩)

/-- Whatever `len` makes of its byte, it moves the event, the state, the shape and the length and nothing else. -/
theorem lenByte_frame (b : Byte) (s : State) :
    ∃ ev sh n, lenByte b s = recvEmit .len ev { s with rxShape := sh, rxLen := n } := by
  obtain ⟨-, h⟩ | ⟨-, -, -, h⟩ | h := lenByte_cases b s
  · exact ⟨_, _, s.rxLen, h⟩
  · exact ⟨_, _, _, h⟩
  · exact ⟨_, s.rxShape, s.rxLen, h⟩

/-- Whatever `dataextlen` makes of its bytes, it moves the event, the state, the shape and the length and nothing else.
-/
theorem extLenBytes_frame (bs : Bytes) (s : State) :
    ∃ ev sh n, extLenBytes bs s = recvEmit .dataextlen ev { s with rxShape := sh, rxLen := n } := by
  obtain ⟨-, -, -, h⟩ | ⟨-, -, h⟩ | h := extLenBytes_cases bs s
  · exact ⟨_, _, _, h⟩
  · exact ⟨_, _, _, h⟩
  · exact ⟨_, s.rxShape, _, h⟩

/-- No move of the receive engine touches a register of the send engine (10_state R20). -/
theorem RecvMove.keeps_sendRegs {s t : State} (h : RecvMove s t) : sendRegs t = sendRegs s := by
  cases h with
  | len _ _ b => obtain ⟨ev, sh, n, he⟩ := lenByte_frame b _; rw [he]; rfl
  | extlen _ _ bs => obtain ⟨ev, sh, n, he⟩ := extLenBytes_frame bs _; rw [he]; rfl
  | _ => rfl

/-- The receive engine neither opens nor closes the device (42_receive_fsm R226). -/
theorem RecvMove.keeps_deviceOpen {s t : State} (h : RecvMove s t) : t.deviceOpen = s.deviceOpen := by
  cases h with
  | len _ _ b => obtain ⟨ev, sh, n, he⟩ := lenByte_frame b _; rw [he]; rfl
  | extlen _ _ bs => obtain ⟨ev, sh, n, he⟩ := extLenBytes_frame bs _; rw [he]; rfl
  | _ => rfl

/-- A release by an engine that does not own the lock has no effect (70_reset_and_hazards R376). -/
theorem lockRelease_of_other {e o : Engine} {s : State} (hne : o ≠ e) (ho : s.lockOwner = some o) :
    (lockRelease e s).lockOwner = some o := by
  simp [ho, hne]

/-- While the receive engine owns the lock no move of the send engine takes it away (20_memory R70). -/
theorem SendMove.keeps_lock_of_recv {s t : State} (h : SendMove s t) (ho : s.lockOwner = some .recv) :
    t.lockOwner = some .recv := by
  cases h with
  | enquiry _ free => simp [ho] at free
  | retryRelease => exact lockRelease_of_other (e := .send) (by decide) ho
  | waitRelease => exact lockRelease_of_other (e := .send) (by decide) ho
  | end_ => exact lockRelease_of_other (e := .send) (by decide) ho
  | _ => exact ho

/-- While the send engine owns the lock no move of the receive engine takes it away (20_memory R70). -/
theorem RecvMove.keeps_lock_of_send {s t : State} (h : RecvMove s t) (ho : s.lockOwner = some .send) :
    t.lockOwner = some .send := by
  cases h with
  | pollPass _ _ free => simp [ho] at free
  | repoll => exact lockRelease_of_other (e := .recv) (by decide) ho
  | endOk => exact lockRelease_of_other (e := .recv) (by decide) ho
  | endFail => exact lockRelease_of_other (e := .recv) (by decide) ho
  | len _ _ b => obtain ⟨ev, sh, n, he⟩ := lenByte_frame b _; rw [he]; exact ho
  | extlen _ _ bs => obtain ⟨ev, sh, n, he⟩ := extLenBytes_frame bs _; rw [he]; exact ho
  | _ => exact ho

/-! ### A turn of one engine -/

/-- A turn of the send engine while no `send` runs moves nothing (10_state R23). -/
theorem step_sendStopped {s : State} {rest : List Turn} (ht : s.turns = .engine .send :: rest) (hr : s.sRun = false) :
    step s = .next { s with turns := rest } := by
  have hf : fetch (.engine .send) { s with turns := rest } = none := if_neg (by simp [hr])
  simp only [step, ht, hf, environment]

/-- A turn of the send engine passes when no `send` runs, and else makes a move. -/
theorem step_sendTurn {s t : State} {rest : List Turn} (ht : s.turns = .engine .send :: rest) (h : step s = .next t) :
    (s.sRun = false ∧ t = { s with turns := rest }) ∨ (s.sRun = true ∧ SendMove { s with turns := rest } t) := by
  by_cases hr : s.sRun = true
  · rw [step_send ht hr rfl] at h
    exact .inr ⟨hr, send_cases (s := { s with turns := rest }) h⟩
  · have hstop := eq_false_of_ne_true hr
    rw [step_sendStopped ht hstop] at h
    cases h
    exact .inl ⟨hstop, rfl⟩

/-- A turn of the receive engine while no `receive` runs moves nothing (10_state R23). -/
theorem step_recvStopped {s : State} {rest : List Turn} (ht : s.turns = .engine .recv :: rest) (hr : s.rRun = false) :
    step s = .next { s with turns := rest } := by
  have hf : fetch (.engine .recv) { s with turns := rest } = none := if_neg (by simp [hr])
  simp only [step, ht, hf, environment]

/-- A turn of the receive engine passes when no `receive` runs, and else makes a move. -/
theorem step_recvTurn {s t : State} {rest : List Turn} (ht : s.turns = .engine .recv :: rest) (h : step s = .next t) :
    (s.rRun = false ∧ t = { s with turns := rest }) ∨ (s.rRun = true ∧ RecvMove { s with turns := rest } t) := by
  by_cases hr : s.rRun = true
  · rw [step_recv ht hr rfl] at h
    exact .inr ⟨hr, recv_cases (s := { s with turns := rest }) h⟩
  · have hstop := eq_false_of_ne_true hr
    rw [step_recvStopped ht hstop] at h
    cases h
    exact .inl ⟨hstop, rfl⟩

/-- Settles O53: each engine's move keeps the other's registers, and a lock the other owns. -/
theorem enginesKeepApart : Obligations.EnginesKeepApart := by
  unfold Obligations.EnginesKeepApart
  refine ⟨fun s t rest ht h => ?_, fun s t rest ht h => ?_⟩
  · obtain ⟨-, rfl⟩ | ⟨-, hm⟩ := step_sendTurn ht h
    · simp
    · have hregs := recvRegs_eq_iff.mp hm.keeps_recvRegs
      have hlock := hm.keeps_lock_of_recv
      tauto
  · obtain ⟨-, rfl⟩ | ⟨-, hm⟩ := step_recvTurn ht h
    · simp
    · have hregs := sendRegs_eq_iff.mp hm.keeps_sendRegs
      have hopen := hm.keeps_deviceOpen
      have hlock := hm.keeps_lock_of_send
      tauto

/-! ### Which turns can move an engine's registers -/

/-- What a step can do to the send engine's side of the state. -/
inductive SendSide (s t : State) : Prop where
  /-- Every turn but the three below. -/
  | keeps (eq : sendRegs t = sendRegs s)
  /-- The engine's own turn. -/
  | moves (rest : List Turn) (h : s.turns = .engine .send :: rest) (run : s.sRun = true)
      (move : SendMove { s with turns := rest } t)
  /-- A `send` starts, asked for by the host or held before (43_orchestrator R262, R268). -/
  | starts (p : Bytes) (fs : List Frame) (s1 : State) (free : s.sRun = false) (least : Config.hdr ≤ p.length)
      (most : p.length ≤ Config.maxPayload) (built : buildFrames p = some fs) (eq : t = startSend p fs s1)
  /-- The transport is constructed, with no call in progress (43_orchestrator R261; log 15). -/
  | constructs (s1 : State) (free : callInProgress s = false) (eq : t = respond .constructed (freshTransport s1))

/-- What a step can do to the receive engine's side of the state. -/
inductive RecvSide (s t : State) : Prop where
  /-- Every turn but the three below. -/
  | keeps (eq : recvRegs t = recvRegs s)
  /-- The engine's own turn. -/
  | moves (rest : List Turn) (h : s.turns = .engine .recv :: rest) (run : s.rRun = true)
      (move : RecvMove { s with turns := rest } t)
  /-- A `receive` starts, asked for by the host or held before (43_orchestrator R264, R268). -/
  | starts (s1 : State) (free : s.rRun = false) (eq : t = startReceive s1)
  /-- The transport is constructed, with no call in progress (43_orchestrator R261; log 15). -/
  | constructs (s1 : State) (free : callInProgress s = false) (eq : t = respond .constructed (freshTransport s1))

/-- The request `send`, from the host or held before: `s1` is the state it is taken from. -/
theorem execSend_sides {p : Bytes} {s s1 t : State} (h : execSend p s1 = .next t) (hs : sendRegs s1 = sendRegs s)
    (hr : recvRegs s1 = recvRegs s) : SendSide s t ∧ RecvSide s t := by
  obtain ⟨-, hmin, hmax, fs, hfs, ⟨-, rfl⟩ | ⟨hrun, rfl⟩⟩ := execSend_cases h
  · exact ⟨.keeps hs, .keeps hr⟩
  · have hfree : s.sRun = false := (congrArg SendRegs.sRun hs).symm.trans hrun
    exact ⟨.starts p fs s1 hfree hmin hmax hfs rfl, .keeps hr⟩

/-- The request `receive`, from the host or held before: `s1` is the state it is taken from. -/
theorem execReceive_sides {s s1 t : State} (h : execReceive s1 = .next t) (hs : sendRegs s1 = sendRegs s)
    (hr : recvRegs s1 = recvRegs s) : SendSide s t ∧ RecvSide s t := by
  obtain ⟨-, ⟨-, rfl⟩ | ⟨hrun, rfl⟩⟩ := execReceive_cases h
  · exact ⟨.keeps hs, .keeps hr⟩
  · have hfree : s.rRun = false := (congrArg RecvRegs.rRun hr).symm.trans hrun
    exact ⟨.keeps hs, .starts s1 hfree rfl⟩

/-- A request of the host moves an engine's registers only by starting a call or by constructing the transport. -/
theorem hostTurn_sides {s t : State} {rest : List Turn} (r : HostRequest)
    (h : exec (hostInstr r) { s with turns := rest } = .next t) : SendSide s t ∧ RecvSide s t := by
  cases r with
  | construct =>
    obtain ⟨hfree, ⟨-, rfl⟩ | ⟨s1, -, rfl⟩⟩ := execConstruct_cases h
    · exact ⟨.keeps rfl, .keeps rfl⟩
    · exact ⟨.constructs s1 hfree rfl, .constructs s1 hfree rfl⟩
  | send p => exact execSend_sides h rfl rfl
  | receive => exact execReceive_sides h rfl rfl
  | destruct => obtain ⟨-, -, rfl⟩ := execDestruct_cases h; exact ⟨.keeps rfl, .keeps rfl⟩
  | readCounters => obtain ⟨-, rfl⟩ := execReadCounters_cases h; exact ⟨.keeps rfl, .keeps rfl⟩

/-- Every step is one of these on each side. -/
theorem step_sides {s t : State} (h : step s = .next t) : SendSide s t ∧ RecvSide s t := by
  cases step_cases h with
  | idle _ eq => subst eq; exact ⟨.keeps rfl, .keeps rfl⟩
  | arrives _ _ _ _ eq => subst eq; exact ⟨.keeps rfl, .keeps rfl⟩
  | delivers _ _ _ eq => subst eq; exact ⟨.keeps rfl, .keeps rfl⟩
  | collects rest k _ eq =>
    subst eq
    exact ⟨.keeps (by simp [sendRegs]), .keeps (by simp [recvRegs])⟩
  | passes _ _ _ eq => subst eq; exact ⟨.keeps rfl, .keeps rfl⟩
  | send rest ht run eq =>
    have hm := send_cases (s := { s with turns := rest }) eq
    exact ⟨.moves rest ht run hm, .keeps hm.keeps_recvRegs⟩
  | recv rest ht run eq =>
    have hm := recv_cases (s := { s with turns := rest }) eq
    exact ⟨.keeps hm.keeps_sendRegs, .moves rest ht run hm⟩
  | codec rest r _ eq => obtain ⟨o, rfl⟩ := exec_codec_cases eq; exact ⟨.keeps rfl, .keeps rfl⟩
  | host rest r _ eq => exact hostTurn_sides r eq
  | heldSend _ _ _ _ _ _ eq => exact execSend_sides eq rfl rfl
  | heldReceive _ _ _ _ _ eq => exact execReceive_sides eq rfl rfl

/-! ### A call while it is in progress -/

/-- What a `send` in progress keeps: the frames and the payload, and the cursor but for `done` (10_state R26, R27). -/
def FramesKept (s t : State) : Prop :=
  t.txf = s.txf ∧ t.txPayload = s.txPayload ∧
    (t.txCursor = s.txCursor ∨
      (s.sState = .done ∧ s.txCursor.toNat + 1 < s.txf.length ∧ t.txCursor = s.txCursor + 1))

/-- Only `end` ends the call; every other move keeps it running and keeps its frames (41_send_fsm R173, R175). -/
theorem SendMove.keeps_call {s t : State} (h : SendMove s t) :
    s.sState = .end_ ∧ t.sRun = false ∨ t.sRun = s.sRun ∧ FramesKept s t := by
  cases h with
  | doneMore st more => exact .inr ⟨rfl, rfl, rfl, .inr ⟨st, of_decide_eq_true more, rfl⟩⟩
  | end_ st => exact .inl ⟨st, rfl⟩
  | _ => exact .inr ⟨rfl, rfl, rfl, .inl rfl⟩

/-- Only `end` ends a `receive` (42_receive_fsm R224). -/
theorem RecvMove.keeps_call {s t : State} (h : RecvMove s t) : s.rState = .end_ ∧ t.rRun = false ∨ t.rRun = s.rRun := by
  cases h with
  | len _ _ b => obtain ⟨ev, sh, n, he⟩ := lenByte_frame b _; rw [he]; exact .inr rfl
  | extlen _ _ bs => obtain ⟨ev, sh, n, he⟩ := extLenBytes_frame bs _; rw [he]; exact .inr rfl
  | endOk _ st => exact .inl ⟨st, rfl⟩
  | endFail st => exact .inl ⟨st, rfl⟩
  | _ => exact .inr rfl

/-- While a `send` runs, a step keeps its frames or is the `end` of the call. -/
theorem step_keeps_send {s t : State} (h : step s = .next t) (hs : s.sRun = true) :
    (s.sState = .end_ ∧ t.sRun = false ∧ ∃ rest, s.turns = .engine .send :: rest) ∨
      (t.sRun = true ∧ FramesKept s t) := by
  cases (step_sides h).1 with
  | keeps eq =>
    obtain ⟨-, hrun, -, -, htxf, hcur, -, hpay, -⟩ := sendRegs_eq_iff.mp eq
    exact .inr ⟨hrun.trans hs, htxf, hpay, .inl hcur⟩
  | moves rest ht _ move =>
    obtain ⟨hst, hrun⟩ | ⟨hrun, hkept⟩ := move.keeps_call
    · exact .inl ⟨hst, hrun, rest, ht⟩
    · exact .inr ⟨hrun.trans hs, hkept⟩
  | starts _ _ _ free => simp [hs] at free
  | constructs _ free => simp [callInProgress, hs] at free

/-- While a `receive` runs, a step leaves it running or is the `end` of the call. -/
theorem step_keeps_receive {s t : State} (h : step s = .next t) (hr : s.rRun = true) :
    (s.rState = .end_ ∧ t.rRun = false ∧ ∃ rest, s.turns = .engine .recv :: rest) ∨ t.rRun = true := by
  cases (step_sides h).2 with
  | keeps eq => exact .inr ((congrArg RecvRegs.rRun eq).trans hr)
  | moves rest ht _ move =>
    obtain ⟨hst, hrun⟩ | hrun := move.keeps_call
    · exact .inl ⟨hst, hrun, rest, ht⟩
    · exact .inr (hrun.trans hr)
  | starts _ free => simp [hr] at free
  | constructs _ free => simp [callInProgress, hr] at free

/-- Settles O54: while a call runs, a step keeps it or is its `end`. -/
theorem aCallKeepsItsFramesAndEndsAtEnd : Obligations.ACallKeepsItsFramesAndEndsAtEnd := by
  unfold Obligations.ACallKeepsItsFramesAndEndsAtEnd
  intro s t h
  refine ⟨fun hs ht => ?_, fun hs ht => ?_, fun hr ht => ?_⟩
  · obtain ⟨-, hstop, -⟩ | ⟨-, hkept⟩ := step_keeps_send h hs
    · simp [ht] at hstop
    · exact hkept
  · obtain ⟨hst, -, hturn⟩ | ⟨hrun, -⟩ := step_keeps_send h hs
    · exact ⟨hst, hturn⟩
    · simp [ht] at hrun
  · obtain ⟨hst, -, hturn⟩ | hrun := step_keeps_receive h hr
    · exact ⟨hst, hturn⟩
    · simp [ht] at hrun

end Sys2Proof.Machine
end

section
/-! SUPPORT. The frames that are built for a payload, and the Transmit Context they make up (40_frame_codec R130 to
R136, 10_state R26, R27). -/

namespace Sys2Proof.Machine

/-! ### The frames of a payload -/

/-- The longest wire unit (30_encoding R104). -/
@[simp] theorem longestUnit_eq : longestUnit = 1038 := by simp [longestUnit]

/-- STX and the checksum byte are the two bytes around the body. -/
@[simp] theorem sealFrame_length (body : Bytes) : (sealFrame body).length = body.length + 2 := by
  simp [sealFrame]

/-- A sealed body that ends in ETX is a complete frame if its size is right (30_encoding R103, R104). -/
theorem completeFrame_of_body {body : Bytes} (hmin : 4 ≤ body.length) (hmax : body.length ≤ 1035) :
    CompleteFrame (sealFrame (body ++ [Config.ETX])) := by
  refine ⟨?_, ?_, body, rfl⟩
  · simp; omega
  · simp; omega

/-- A payload with a header and at most `REG_MAX` bytes makes a complete regular frame (40_frame_codec R132). -/
theorem completeFrame_regular {p : Bytes} (hmin : 3 ≤ p.length) (hmax : p.length ≤ 251) :
    CompleteFrame (regularFrame p) := by
  apply completeFrame_of_body
  · simp; omega
  · simp; omega

/-- A payload with a header and at most `EXT_MAX` bytes makes a complete extended frame (40_frame_codec R134). -/
theorem completeFrame_extended {p : Bytes} (hmin : 3 ≤ p.length) (hmax : p.length ≤ 1030) :
    CompleteFrame (extendedFrame p) := by
  apply completeFrame_of_body
  · simp [be24]; omega
  · simp [be24]; omega

/-- OR-ing the division flags into the codebit keeps the size of the header (40_frame_codec R137). -/
@[simp] theorem flagHeader_length (flag : Byte) (header : Bytes) : (flagHeader flag header).length = header.length := by
  unfold flagHeader
  split <;> rfl

/-- A chunk holds at most `CHUNK_MAX` bytes (40_frame_codec R135). -/
theorem chunk_length_le (data : Bytes) (i : Nat) : (chunk data i).length ≤ 1024 := by
  simp [chunk]

/-- Every frame of a divided message is complete (40_frame_codec R136). -/
theorem completeFrame_divided {header : Bytes} (hh : header.length = 3) (data : Bytes) (n i : Nat) :
    CompleteFrame (dividedFrame header data n i) := by
  have hc := chunk_length_le data i
  apply completeFrame_of_body
  · simp [be24, be16, hh]
  · simp [be24, be16, hh]; omega

/-- What the Transmit Context asks of a list of frames at the start of a call (10_state R26, R27). -/
def SendableFrames (fs : List Frame) : Prop := fs ≠ [] ∧ fs.length ≤ 65535 ∧ ∀ f ∈ fs, CompleteFrame f

/-- One complete frame is sendable. -/
theorem sendableFrames_singleton {f : Frame} (h : CompleteFrame f) : SendableFrames [f] := by
  simpa [SendableFrames] using h

/-- A payload above `EXT_MAX` that the format can carry makes 1 to 65535 divided frames (40_frame_codec R133, R135). -/
theorem sendableFrames_divided {p : Bytes} (hmin : 1030 < p.length) (hmax : p.length ≤ 67107843) :
    SendableFrames (dividedFrames p) := by
  have hcount : 1 ≤ frameCount (p.length - 3) ∧ frameCount (p.length - 3) ≤ 65535 := by
    simp only [frameCount, Config.chunkMax_eq]
    omega
  have hheader : (p.take Config.hdr).length = 3 := by simp; omega
  refine ⟨?_, ?_, ?_⟩
  · have hlen : (dividedFrames p).length = frameCount (p.length - 3) := by simp [dividedFrames]
    exact List.ne_nil_of_length_pos (by omega)
  · simpa [dividedFrames] using hcount.2
  · intro f hf
    obtain ⟨i, -, rfl⟩ := List.mem_map.mp hf
    exact completeFrame_divided hheader _ _ i

/-- Every payload that `send` accepts makes sendable frames (43_orchestrator R262, 40_frame_codec R130). -/
theorem buildFrames_sendable {p : Bytes} {fs : List Frame} (hmin : Config.hdr ≤ p.length)
    (hmax : p.length ≤ Config.maxPayload) (h : buildFrames p = some fs) : SendableFrames fs := by
  have hformat : p.length ≤ 67107843 := by
    have hbound := Config.maxPayload_bounds.2
    rw [Config.formatMax_eq] at hbound
    omega
  rw [Config.hdr_eq] at hmin
  unfold buildFrames buildRegular buildExtended buildDivided at h
  simp only [Config.regMax_eq, Config.extMax_eq, Config.formatMax_eq] at h
  by_cases hreg : p.length ≤ 251
  · simp only [if_pos hreg] at h
    cases h
    exact sendableFrames_singleton (completeFrame_regular hmin hreg)
  · by_cases hext : p.length ≤ 1030
    · have hsize : 251 < p.length ∧ p.length ≤ 1030 := ⟨Nat.lt_of_not_le hreg, hext⟩
      simp only [if_neg hreg, if_pos hext, if_pos hsize] at h
      cases h
      exact sendableFrames_singleton (completeFrame_extended hmin hext)
    · simp only [if_neg hreg, if_neg hext, if_pos hformat] at h
      cases h
      exact sendableFrames_divided (Nat.lt_of_not_le hext) hformat

/-! ### The Transmit Context from step to step -/

/-- Sendable frames with the cursor at 0 are a well-formed Transmit Context (10_state R47). -/
theorem txInv_startSend {p : Bytes} {fs : List Frame} (h : SendableFrames fs) (s : State) :
    TxInv (startSend p fs s) := by
  obtain ⟨hne, hcount, hframes⟩ := h
  exact ⟨fun _ => List.length_pos_iff.mpr hne, fun _ => hcount, fun _ => hframes⟩

/-- The cursor can take one more step inside the frame store without wrapping. -/
theorem cursor_succ_toNat {c : BitVec 16} {n : Nat} (hc : c.toNat + 1 < n) (hn : n ≤ 65535) :
    (c + 1).toNat = c.toNat + 1 := by
  rw [BitVec.toNat_add]
  exact Nat.mod_eq_of_lt (Nat.lt_of_lt_of_le hc (by omega))

/-- A step that keeps the frames of a running `send` keeps its Transmit Context: `done` moves the cursor only below the
last frame (41_send_fsm R173). -/
theorem txInv_of_framesKept {s t : State} (hi : TxInv s) (hs : s.sRun = true) (h : FramesKept s t) : TxInv t := by
  obtain ⟨htxf, -, hcur⟩ := h
  have hcount := hi.count hs
  refine ⟨fun _ => ?_, fun _ => htxf ▸ hcount, fun _ => htxf ▸ hi.frames hs⟩
  rw [htxf]
  obtain hcur | ⟨-, hmore, hcur⟩ := hcur
  · exact hcur ▸ hi.cursor hs
  · rw [hcur, cursor_succ_toNat hmore hcount]
    exact hmore

/-- While no `send` runs, a step starts one with the frames of its payload or leaves none running. -/
theorem step_starts_send {s t : State} (h : step s = .next t) (hs : s.sRun = false) :
    t.sRun = false ∨ ∃ p fs s1, SendableFrames fs ∧ t = startSend p fs s1 := by
  cases (step_sides h).1 with
  | keeps eq => exact .inl ((congrArg SendRegs.sRun eq).trans hs)
  | moves _ _ run => simp [hs] at run
  | starts p fs s1 _ least most built eq => exact .inr ⟨p, fs, s1, buildFrames_sendable least most built, eq⟩
  | constructs _ _ eq => subst eq; exact .inl rfl

/-- Settles O47: a running `send` keeps its frames, and one that starts has sendable frames. -/
theorem everyStepKeepsTransmitContext : Obligations.EveryStepKeepsTransmitContext := by
  unfold Obligations.EveryStepKeepsTransmitContext
  intro s t hi h
  cases hs : s.sRun with
  | true =>
    obtain ⟨-, hstop, -⟩ | ⟨-, hkept⟩ := step_keeps_send h hs
    · exact txInv_of_stopped hstop
    · exact txInv_of_framesKept hi hs hkept
  | false =>
    obtain hstop | ⟨p, fs, s1, hframes, rfl⟩ := step_starts_send h hs
    · exact txInv_of_stopped hstop
    · exact txInv_startSend hframes s1

end Sys2Proof.Machine
end

section
/-! SUPPORT. The frame in progress and the Receive Context from step to step (10_state R30, R45, 42_receive_fsm R205 to
R224). -/

namespace Sys2Proof.Machine

/-! ### Bytes already buffered stay as they are -/

/-- The marker position is decided once two bytes are there. -/
theorem isExtended_append {f : Frame} (h : 2 ≤ f.length) (bs : Bytes) : isExtended (f ++ bs) = isExtended f := by
  simp only [isExtended, List.getElem?_append_left (show 1 < f.length by omega)]

/-- A slice that lies inside what is buffered is not moved by more bytes. -/
theorem slice_append {f : Frame} {i j : Nat} (h : j ≤ f.length) (bs : Bytes) : slice (f ++ bs) i j = slice f i j := by
  simp only [slice, List.take_append_of_le_length h]

/-- The slice of bytes that come right after what is buffered. -/
theorem slice_appended {f bs : Bytes} {i j : Nat} (hi : f.length = i) (hj : i + bs.length = j) :
    slice (f ++ bs) i j = bs := by
  rw [slice, List.take_of_length_le (by simp; omega), ← hi, List.drop_left]

/-- `n` bytes encode a number below `256 ^ n` (00_scope R14). -/
theorem unbe_lt (bs : Bytes) : unbe bs < 256 ^ bs.length := by
  induction bs using List.reverseRecOn with
  | nil => decide
  | append_singleton bs b ih =>
    have hb := b.isLt
    have hu : unbe (bs ++ [b]) = unbe bs * 256 + b.toNat := by simp [unbe]
    simp only [hu, List.length_append, List.length_singleton, pow_succ]
    omega

/-- The 24 bits of `rx_len` hold EXTLEN whole (10_state R32). -/
theorem extLen_toNat {bs : Bytes} (h : bs.length = 3) : (BitVec.ofNat 24 (unbe bs)).toNat = unbe bs := by
  have hlt := unbe_lt bs
  rw [h] at hlt
  rw [BitVec.toNat_ofNat]
  exact Nat.mod_eq_of_lt hlt

/-! ### A frame store taken apart -/

/-- A completed buffer of a division: a divided frame (42_receive_fsm R222). -/
def CompletedBuffer (g : Frame) : Prop := isExtended g = true ∧ dividedFits g = true

/-- The Receive Context of a running `receive` with the completed buffers `done` and the frame in progress `f` (10_state
R30). -/
structure Receiving (s : State) (done : List Frame) (f : Frame) : Prop where
  store : s.rxf = done ++ [f]
  completed : ∀ g ∈ done, CompletedBuffer g
  progress : rxProgress s f

/-- A frame store taken apart meets the invariant. -/
theorem Receiving.rxInv {s : State} {done : List Frame} {f : Frame} (h : Receiving s done f) : RxInv s where
  buffer _ := by simp [h.store]
  completed _ := by simpa [h.store, CompletedBuffer] using h.completed
  progress _ := by simpa [h.store] using h.progress

/-- While a `receive` runs, the invariant takes the frame store apart. -/
theorem RxInv.receiving {s : State} (h : RxInv s) (hr : s.rRun = true) : ∃ done f, Receiving s done f := by
  have hne := h.buffer hr
  obtain ⟨done, f, hstore⟩ := (List.eq_nil_or_concat' s.rxf).resolve_left hne
  refine ⟨done, f, hstore, ?_, ?_⟩
  · simpa [hstore, CompletedBuffer] using h.completed hr
  · simpa [hstore] using h.progress hr

/-- What the frame in progress holds, read in a state that is known. -/
theorem Receiving.inState {s : State} {done : List Frame} {f : Frame} {rs : RecvState} (h : Receiving s done f)
    (st : s.rState = rs) : rxProgress { s with rState := rs } f := by
  subst st
  exact h.progress

/-- `mid_division` says that a buffer is completed (10_state R36). -/
theorem midDivision_of_store {s : State} {done : List Frame} {f : Frame} (h : s.rxf = done ++ [f]) :
    s.midDivision = !done.isEmpty := by
  cases done <;> simp [State.midDivision, h]

/-- A store is not empty when it has been taken apart. -/
theorem Receiving.ne_nil {s : State} {done : List Frame} {f : Frame} (h : Receiving s done f) : s.rxf ≠ [] := by
  simp [h.store]

/-- Appending bytes appends them to the frame in progress. -/
theorem rxAppend_store {s : State} {done : List Frame} {f : Frame} (h : s.rxf = done ++ [f]) (bs : Bytes) :
    (rxAppend bs s).rxf = done ++ [f ++ bs] := by
  simp [h]

/-! ### What the frame in progress holds -/

/-- The frame in progress is long enough for its shape to be read off it: the marker position is there and, but for a
regular frame, EXTLEN. -/
def ShapeReadable (s : State) (f : Frame) : Prop := 2 ≤ f.length ∧ (s.rxShape ≠ .regular → 8 ≤ f.length)

/-- What is known of the frame in progress after LEN stays known when more bytes come (42_receive_fsm R212). -/
theorem rxHeaded_append {s t : State} {f : Frame} (hshape : t.rxShape = s.rxShape) (hlen : t.rxLen = s.rxLen)
    (h2 : 2 ≤ f.length) (bs : Bytes) (h : rxHeaded s f) : rxHeaded t (f ++ bs) := by
  simpa only [rxHeaded, hshape, hlen, isExtended_append h2] using h

/-- What is known of the frame in progress once its shape is decided stays known when more bytes come. -/
theorem rxDecided_append {s t : State} {f : Frame} (hshape : t.rxShape = s.rxShape) (hlen : t.rxLen = s.rxLen)
    (hmid : t.midDivision = s.midDivision) (hread : ShapeReadable s f) (bs : Bytes) (h : rxDecided s f) :
    rxDecided t (f ++ bs) := by
  obtain ⟨h2, h8⟩ := hread
  unfold rxDecided at h ⊢
  rw [hshape, hlen, hmid, isExtended_append h2]
  cases hs : s.rxShape with
  | none => simp [hs] at h
  | extPending => simp [hs] at h
  | regular => simpa only [hs] using h
  | extended => simpa only [hs, slice_append (h8 (by simp [hs]))] using h
  | divided => simpa only [hs, slice_append (h8 (by simp [hs]))] using h

/-- A regular frame is decided at LEN (42_receive_fsm R211). -/
theorem rxDecided_of_headed {s t : State} {f : Frame} (hshape : t.rxShape = .regular) (hs : s.rxShape = .regular)
    (hlen : t.rxLen = s.rxLen) (h : rxHeaded s f) : rxDecided t f := by
  simpa only [rxDecided, rxHeaded, hshape, hs, hlen] using h

/-- A frame that passed LEN and is not regular carries the marker (42_receive_fsm R211). -/
theorem isExtended_of_headed {s : State} {f : Frame} (hs : s.rxShape ≠ .regular) (h : rxHeaded s f) :
    isExtended f = true := by
  unfold rxHeaded at h
  split at h
  · contradiction
  · exact h
  · exact h.elim

/-- Once its fields before the data are there, the shape can be read off the frame. -/
theorem shapeReadable_beforeData {s : State} {f : Frame} (h : f.length = rxBeforeData s) : ShapeReadable s f := by
  unfold rxBeforeData at h
  cases hs : s.rxShape <;> simp [ShapeReadable, hs] at h ⊢ <;> omega

/-- Once its data is there, the shape can be read off the frame. -/
theorem shapeReadable_beforeEtx {s : State} {f : Frame} (h : rxDecided s f) (hf : rxBeforeEtx s ≤ f.length) :
    ShapeReadable s f := by
  unfold rxDecided at h
  unfold rxBeforeEtx at hf
  cases hs : s.rxShape <;> simp [ShapeReadable, hs] at h hf ⊢ <;> omega

/-- The data `data` reads are what stands between the fields and ETX (42_receive_fsm R216). -/
theorem rxBeforeData_add_count {s : State} {n : Nat} (h : rxDataCount s = some n) :
    rxBeforeData s + n = rxBeforeEtx s := by
  unfold rxDataCount at h
  unfold rxBeforeData rxBeforeEtx
  cases hs : s.rxShape <;> simp [hs] at h ⊢ <;> omega

/-! ### The moves of the receive engine -/

/-- Where a failed field, a denied byte or a failed write leads, nothing is asked of the frame in progress
(42_receive_fsm R202). -/
theorem rxInv_recovery {t : State} {done : List Frame} {f : Frame}
    (hst : t.rState = .nak ∨ t.rState = .retry ∨ t.rState = .error) (hstore : t.rxf = done ++ [f])
    (hcompleted : ∀ g ∈ done, CompletedBuffer g) : RxInv t := by
  have hprogress : rxProgress t f := by obtain hst | hst | hst := hst <;> simp [rxProgress, hst]
  exact Receiving.rxInv ⟨hstore, hcompleted, hprogress⟩

/-- An action of device calls alone passes in `ack` or `ack2`, or leads to `nak`, `retry` or `error` (42_receive_fsm
R202). -/
theorem recvPlain_successor {rs : RecvState} {ev : Event} (h : recvPlain rs ev = true) (hc : ev ∈ recvCanEmit rs) :
    (rs = .ack ∧ ev = .pass) ∨ (rs = .ack2 ∧ ev = .pass) ∨
      tRecv rs ev = some .nak ∨ tRecv rs ev = some .retry ∨ tRecv rs ev = some .error := by
  revert h hc
  cases rs <;> cases ev <;> decide

/-- The event of a state that expects one byte (42_receive_fsm R210, R217). -/
theorem classifyExpected_cases (e b : Byte) :
    (b = e ∧ classifyExpected e b = .pass) ∨ (b ≠ e ∧ classifyExpected e b = .deny) := by
  by_cases h : b = e <;> simp [classifyExpected, h]

section

variable {s : State} {done : List Frame} {f : Frame}

/-- `stx`: the byte begins the frame or is denied (42_receive_fsm R210). -/
theorem Receiving.rxInv_after_stx (hi : Receiving s done f) (st : s.rState = .stx) (b : Byte) (as : List DevAnswer)
    (inp : Bytes) :
    RxInv (recvEmit .stx (classifyExpected Config.STX b) (rxAppend [b] { s with answers := as, devIn := inp })) := by
  have hf : f = [] := (hi.inState st :)
  have happ := rxAppend_store (s := { s with answers := as, devIn := inp }) hi.store [b]
  obtain ⟨rfl, he⟩ | ⟨-, he⟩ := classifyExpected_cases Config.STX b <;> rw [he]
  · exact Receiving.rxInv ⟨happ, hi.completed, congrArg (· ++ [Config.STX]) hf⟩
  · exact rxInv_recovery (.inl rfl) happ hi.completed

/-- `len`: the byte is the marker, a regular length or is denied (42_receive_fsm R211). -/
theorem Receiving.rxInv_after_len (hi : Receiving s done f) (st : s.rState = .len) (b : Byte) (as : List DevAnswer)
    (inp : Bytes) :
    RxInv (lenByte b (rxAppend [b] { s with answers := as, devIn := inp })) := by
  have hf : f = [Config.STX] := (hi.inState st :)
  have happ := rxAppend_store (s := { s with answers := as, devIn := inp }) hi.store [b]
  have hmarker : isExtended (f ++ [b]) = decide (b = Config.EXT_LEN) := by simp [hf, isExtended]
  have hlength : (f ++ [b]).length = 2 := by simp [hf]
  obtain ⟨hb, he⟩ | ⟨hb, hmin, hmax, he⟩ | he :=
    lenByte_cases b (rxAppend [b] { s with answers := as, devIn := inp }) <;> rw [he]
  · exact Receiving.rxInv ⟨happ, hi.completed, hlength, hmarker.trans (decide_eq_true hb)⟩
  · have hn : (b.setWidth 24).toNat = b.toNat := by
      rw [BitVec.toNat_setWidth]
      exact Nat.mod_eq_of_lt (by have := b.isLt; omega)
    exact Receiving.rxInv ⟨happ, hi.completed, hlength, hmarker.trans (decide_eq_false hb), hn ▸ hmin, hn ▸ hmax⟩
  · exact rxInv_recovery (.inl rfl) happ hi.completed

/-- `datacmd`: three bytes of header (42_receive_fsm R212). -/
theorem Receiving.rxInv_after_datacmd (hi : Receiving s done f) (st : s.rState = .datacmd) {bs : Bytes}
    (hn : bs.length = 3)
    (as : List DevAnswer) (inp : Bytes) :
    RxInv (recvEmit .datacmd .pass (rxAppend bs { s with answers := as, devIn := inp })) := by
  obtain ⟨hlength, hheaded⟩ : f.length = 2 ∧ rxHeaded s f := (hi.inState st :)
  have happ := rxAppend_store (s := { s with answers := as, devIn := inp }) hi.store bs
  refine Receiving.rxInv ⟨happ, hi.completed, ?_, ?_⟩
  · simp [hlength, hn]
  · exact rxHeaded_append rfl rfl hlength.ge bs hheaded

/-- `dataextlen` of a regular frame: its shape was decided at LEN (42_receive_fsm R213). -/
theorem Receiving.rxInv_after_extlenSkip (hi : Receiving s done f) (st : s.rState = .dataextlen)
    (sh : s.rxShape = .regular) :
    RxInv (recvEmit .dataextlen .pass s) := by
  obtain ⟨hlength, hheaded⟩ : f.length = 5 ∧ rxHeaded s f := (hi.inState st :)
  refine Receiving.rxInv ⟨hi.store, hi.completed, ?_, rxDecided_of_headed sh sh rfl hheaded⟩
  exact hlength.trans (if_pos sh).symm

/-- EXTLEN, once it is buffered, selects the shape or is denied (42_receive_fsm R213, R214). -/
theorem rxInv_extLenBytes {bs : Bytes} (hn : bs.length = 3) (hstore : s.rxf = done ++ [f])
    (hcompleted : ∀ g ∈ done, CompletedBuffer g) (hlength : f.length = 8) (hmarker : isExtended f = true)
    (hfield : slice f 5 8 = bs) : RxInv (extLenBytes bs s) := by
  have hv := extLen_toNat hn
  have hunbe : unbe (slice f 5 8) = (BitVec.ofNat 24 (unbe bs)).toNat := by rw [hfield, hv]
  obtain ⟨hsel, hmin, hmax, he⟩ | ⟨hsel, hmin, he⟩ | he := extLenBytes_cases bs s <;> rw [he]
  · exact Receiving.rxInv ⟨hstore, hcompleted, hlength, hmarker,
      (congrArg (selectsDivided s.midDivision) hv).trans hsel, hmin.trans_eq hv.symm, hv.trans_le hmax, hunbe⟩
  · obtain ⟨hmid, hle⟩ : s.midDivision = false ∧ unbe bs ≤ Config.divThreshold := by
      simpa [selectsDivided] using hsel
    exact Receiving.rxInv ⟨hstore, hcompleted, hlength, hmarker, hmid, hmin.trans_eq hv.symm, hv.trans_le hle, hunbe⟩
  · exact rxInv_recovery (.inl rfl) hstore hcompleted

/-- `dataextlen`: three bytes of EXTLEN after the header of a frame with the marker (42_receive_fsm R213). -/
theorem Receiving.rxInv_after_extlen (hi : Receiving s done f) (st : s.rState = .dataextlen) (sh : s.rxShape ≠ .regular)
    {bs : Bytes} (hn : bs.length = 3) (as : List DevAnswer) (inp : Bytes) :
    RxInv (extLenBytes bs (rxAppend bs { s with answers := as, devIn := inp })) := by
  obtain ⟨hlength, hheaded⟩ : f.length = 5 ∧ rxHeaded s f := (hi.inState st :)
  have happ := rxAppend_store (s := { s with answers := as, devIn := inp }) hi.store bs
  have hmarker : isExtended (f ++ bs) = true :=
    (isExtended_append (by omega) bs).trans (isExtended_of_headed sh hheaded)
  exact rxInv_extLenBytes hn happ hi.completed (by simp [hlength, hn]) hmarker (slice_appended hlength (by omega))

/-- More bytes in the frame in progress leave what is decided of it as it is. -/
theorem Receiving.decided_append (hi : Receiving s done f) {t : State} {bs : Bytes} (ht : t.rxf = done ++ [f ++ bs])
    (hshape : t.rxShape = s.rxShape) (hlen : t.rxLen = s.rxLen) (hread : ShapeReadable s f) (h : rxDecided s f) :
    rxDecided t (f ++ bs) :=
  rxDecided_append hshape hlen ((midDivision_of_store ht).trans (midDivision_of_store hi.store).symm) hread bs h

/-- `dataframenumber` of a frame that is not divided (42_receive_fsm R215). -/
theorem Receiving.rxInv_after_numberSkip (hi : Receiving s done f) (st : s.rState = .dataframenumber)
    (sh : s.rxShape ≠ .divided) :
    RxInv (recvEmit .dataframenumber .pass s) := by
  obtain ⟨hlength, hdecided⟩ : f.length = (if s.rxShape = .regular then 5 else 8) ∧ rxDecided s f := (hi.inState st :)
  have hbefore : f.length = rxBeforeData s := by
    rw [hlength, rxBeforeData]
    cases hs : s.rxShape <;> simp [hs] at sh ⊢
  exact Receiving.rxInv ⟨hi.store, hi.completed, hbefore, hdecided⟩

/-- `dataframenumber` of a divided frame: FRAMENO and FRAMECOUNT (42_receive_fsm R215). -/
theorem Receiving.rxInv_after_number (hi : Receiving s done f) (st : s.rState = .dataframenumber)
    (sh : s.rxShape = .divided)
    {bs : Bytes} (hn : bs.length = 4) (as : List DevAnswer) (inp : Bytes) :
    RxInv (frameNumberBytes bs (rxAppend bs { s with answers := as, devIn := inp })) := by
  obtain ⟨hlength, hdecided⟩ : f.length = (if s.rxShape = .regular then 5 else 8) ∧ rxDecided s f := (hi.inState st :)
  rw [if_neg (by simp [sh])] at hlength
  have happ := rxAppend_store (s := { s with answers := as, devIn := inp }) hi.store bs
  have hread : ShapeReadable s f := ⟨by omega, fun _ => hlength.ge⟩
  have hbefore : (f ++ bs).length = rxBeforeData s := by simp [rxBeforeData, sh, hlength, hn]
  exact Receiving.rxInv ⟨happ, hi.completed, hbefore,
    hi.decided_append happ rfl rfl hread hdecided⟩

/-- `data` with nothing to read (42_receive_fsm R216). -/
theorem Receiving.rxInv_after_dataNone (hi : Receiving s done f) (st : s.rState = .data) (hc : rxDataCount s = some 0) :
    RxInv (recvEmit .data .pass s) := by
  obtain ⟨hlength, hdecided⟩ : f.length = rxBeforeData s ∧ rxDecided s f := (hi.inState st :)
  exact Receiving.rxInv ⟨hi.store, hi.completed, hlength.trans (rxBeforeData_add_count hc), hdecided⟩

/-- `data`: as many bytes as the declared length asks for (42_receive_fsm R216). -/
theorem Receiving.rxInv_after_data (hi : Receiving s done f) (st : s.rState = .data) {bs : Bytes}
    (hc : rxDataCount s = some bs.length) (as : List DevAnswer) (inp : Bytes) :
    RxInv (recvEmit .data .pass (rxAppend bs { s with answers := as, devIn := inp })) := by
  obtain ⟨hlength, hdecided⟩ : f.length = rxBeforeData s ∧ rxDecided s f := (hi.inState st :)
  have happ := rxAppend_store (s := { s with answers := as, devIn := inp }) hi.store bs
  have hbefore : (f ++ bs).length = rxBeforeEtx s := by
    rw [List.length_append, hlength, rxBeforeData_add_count hc]
  exact Receiving.rxInv ⟨happ, hi.completed, hbefore,
    hi.decided_append happ rfl rfl (shapeReadable_beforeData hlength) hdecided⟩

/-- `etx`: the byte after the data is as expected or denied (42_receive_fsm R217). -/
theorem Receiving.rxInv_after_etx (hi : Receiving s done f) (st : s.rState = .etx) (e b : Byte)
    (as : List DevAnswer) (inp : Bytes) :
    RxInv (recvEmit .etx (classifyExpected e b) (rxAppend [b] { s with answers := as, devIn := inp })) := by
  obtain ⟨hlength, hdecided⟩ : f.length = rxBeforeEtx s ∧ rxDecided s f := (hi.inState st :)
  have happ := rxAppend_store (s := { s with answers := as, devIn := inp }) hi.store [b]
  have hlength1 : (f ++ [b]).length = rxBeforeEtx s + 1 := by simp [hlength]
  have hread := shapeReadable_beforeEtx hdecided hlength.ge
  obtain ⟨-, he⟩ | ⟨-, he⟩ := classifyExpected_cases e b <;> rw [he]
  · exact Receiving.rxInv ⟨happ, hi.completed, hlength1,
      hi.decided_append happ rfl rfl hread hdecided⟩
  · exact rxInv_recovery (.inl rfl) happ hi.completed

/-- `cs`: the checksum byte is as computed or denied (42_receive_fsm R218). -/
theorem Receiving.rxInv_after_cs (hi : Receiving s done f) (st : s.rState = .cs) (e b : Byte) (as : List DevAnswer)
    (inp : Bytes) :
    RxInv (recvEmit .cs (classifyExpected e b) (rxAppend [b] { s with answers := as, devIn := inp })) := by
  obtain ⟨hlength, hdecided⟩ : f.length = rxBeforeEtx s + 1 ∧ rxDecided s f := (hi.inState st :)
  have happ := rxAppend_store (s := { s with answers := as, devIn := inp }) hi.store [b]
  have hlength2 : (f ++ [b]).length = rxBeforeEtx s + 2 := by simp [hlength]
  have hread := shapeReadable_beforeEtx hdecided (by omega)
  obtain ⟨-, he⟩ | ⟨-, he⟩ := classifyExpected_cases e b <;> rw [he]
  · exact Receiving.rxInv ⟨happ, hi.completed, hlength2,
      hi.decided_append happ rfl rfl hread hdecided⟩
  · exact rxInv_recovery (.inl rfl) happ hi.completed

/-- A whole frame of the divided shape is a completed buffer (42_receive_fsm R222). -/
theorem completedBuffer_of_divided (sh : s.rxShape = .divided) (hlength : f.length = rxBeforeEtx s + 2)
    (hdecided : rxDecided s f) : CompletedBuffer f := by
  simp only [rxDecided, sh, Config.divOverhead_eq] at hdecided
  obtain ⟨hmarker, -, hmin, -⟩ := hdecided
  simp only [rxBeforeEtx, sh] at hlength
  exact ⟨hmarker, decide_eq_true (by omega)⟩

/-- `done` of a division that goes on: the frame is completed and an empty buffer begins the next one (42_receive_fsm
R222). -/
theorem Receiving.rxInv_after_doneMore (hi : Receiving s done f) (st : s.rState = .done) (more : s.moreDivided = true) :
    RxInv (recvEmit .done .wait { rxNewBuffer s with rxShape := .none }) := by
  obtain ⟨hlength, hdecided⟩ : f.length = rxBeforeEtx s + 2 ∧ rxDecided s f := (hi.inState st :)
  have sh : s.rxShape = .divided := of_decide_eq_true (Bool.and_eq_true_iff.mp more).1
  have hf := completedBuffer_of_divided sh hlength hdecided
  refine Receiving.rxInv (done := done ++ [f]) (f := []) ⟨congrArg (· ++ [[]]) hi.store, ?_, rfl⟩
  exact List.forall_mem_append.mpr ⟨hi.completed, by simpa using hf⟩

/-- `retry` empties the frame in progress (42_receive_fsm R221). -/
theorem rxClear_store (h : s.rxf = done ++ [f]) : (rxClear s).rxf = done ++ [[]] := by
  simp [h]

/-- The read that ends the drain of `enquiry` leaves an empty frame in progress (42_receive_fsm R208). -/
theorem Receiving.rxInv_after_drained (hi : Receiving s done f) (st : s.rState = .enquiry) (r : DrainResult)
    (as : List DevAnswer) : RxInv (recvEmit .enquiry (classifyDrain r) { s with answers := as }) := by
  have hf : f = [] := (hi.inState st :)
  have hev := classifyDrain_mem r
  cases h : classifyDrain r with
  | pass => exact Receiving.rxInv ⟨hi.store, hi.completed, hf⟩
  | busy => exact Receiving.rxInv ⟨hi.store, hi.completed, hf⟩
  | wait => simp [h, recvCanEmit] at hev
  | deny => exact rxInv_recovery (.inr (.inl rfl)) hi.store hi.completed
  | fail => exact rxInv_recovery (.inr (.inr rfl)) hi.store hi.completed

/-- Device calls and an event: `ack` and `ack2` pass with the frame as it is, everything else is recovery
(42_receive_fsm R202, R209, R219). -/
theorem Receiving.rxInv_after_emits (hi : Receiving s done f) {rs : RecvState} {ev : Event} (st : s.rState = rs)
    (plain : recvPlain rs ev = true) (can : ev ∈ recvCanEmit rs) (as : List DevAnswer) (inp out : Bytes) :
    RxInv (recvEmit rs ev { s with answers := as, devIn := inp, devOut := out }) := by
  obtain ⟨rfl, rfl⟩ | ⟨rfl, rfl⟩ | hnext := recvPlain_successor plain can
  · exact Receiving.rxInv ⟨hi.store, hi.completed, (hi.inState st :)⟩
  · exact Receiving.rxInv ⟨hi.store, hi.completed, (hi.inState st :)⟩
  · refine rxInv_recovery ?_ hi.store hi.completed
    obtain hnext | hnext | hnext := hnext <;> simp [hnext]

/-- Every move of the receive engine keeps the Receive Context, or ends the call. -/
theorem RecvMove.keeps_rxInv {t : State} (h : RecvMove s t) (hi : Receiving s done f) : RxInv t := by
  cases h with
  | waits => exact hi.rxInv
  | emits rs ev as inp out st plain can => exact hi.rxInv_after_emits st plain can as inp out
  | idle st => exact Receiving.rxInv ⟨hi.store, hi.completed, (hi.inState st :)⟩
  | pollReadable as st => exact Receiving.rxInv ⟨hi.store, hi.completed, hi.progress⟩
  | pollFail => exact rxInv_recovery (.inr (.inr rfl)) hi.store hi.completed
  | pollPass st => exact Receiving.rxInv ⟨hi.store, hi.completed, (hi.inState st :)⟩
  | drains as b inp st => exact Receiving.rxInv ⟨hi.store, hi.completed, hi.progress⟩
  | drained as st => exact hi.rxInv_after_drained st _ as
  | repoll st => exact Receiving.rxInv ⟨hi.store, hi.completed, (hi.inState st :)⟩
  | stx as inp b st => exact hi.rxInv_after_stx st b as inp
  | len as inp b st => exact hi.rxInv_after_len st b as inp
  | datacmd as inp bs st _ n => exact hi.rxInv_after_datacmd st n as inp
  | extlenSkip st sh => exact hi.rxInv_after_extlenSkip st sh
  | extlen as inp bs st _ sh n => exact hi.rxInv_after_extlen st sh n as inp
  | numberSkip st sh => exact hi.rxInv_after_numberSkip st sh
  | number as inp bs st _ sh n => exact hi.rxInv_after_number st sh n as inp
  | dataNone st n => exact hi.rxInv_after_dataNone st n
  | data as inp bs st _ n => exact hi.rxInv_after_data st n as inp
  | etx as inp b st => exact hi.rxInv_after_etx st _ b as inp
  | cs as inp b st => exact hi.rxInv_after_cs st _ b as inp
  | retryPass => exact Receiving.rxInv ⟨rxClear_store hi.store, hi.completed, rfl⟩
  | retryFail => exact rxInv_recovery (.inr (.inr rfl)) (rxClear_store hi.store) hi.completed
  | doneMore st more => exact hi.rxInv_after_doneMore st more
  | doneLast st => exact Receiving.rxInv ⟨hi.store, hi.completed, fun _ => (hi.inState st :)⟩
  | error => exact Receiving.rxInv ⟨hi.store, hi.completed, fun h => nomatch h⟩
  | endOk => exact rxInv_of_stopped rfl
  | endFail => exact rxInv_of_stopped rfl

end

/-- The Receive Context of a call that starts: one empty buffer (10_state R47). -/
theorem receiving_startReceive (s : State) : Receiving (startReceive s) [] [] :=
  ⟨rfl, by simp, rfl⟩

/-- The invariant speaks of the receive engine's registers only. -/
theorem RxInv.of_recvRegs {s t : State} (h : RxInv s) (hregs : recvRegs t = recvRegs s) : RxInv t := by
  obtain ⟨hst, hrun, -, -, hrxf, hshape, hlen, -, -, hok, -, -⟩ := recvRegs_eq_iff.mp hregs
  obtain ⟨hbuffer, hcompleted, hprogress⟩ := h
  have hmid : t.midDivision = s.midDivision := by simp only [State.midDivision, hrxf]
  refine ⟨?_, ?_, ?_⟩ <;> rw [hrun, hrxf]
  · exact hbuffer
  · exact hcompleted
  · simpa only [rxProgress, rxHeaded, rxDecided, rxBeforeData, rxBeforeEtx, hst, hshape, hlen, hok, hmid]
      using hprogress

/-- Settles O48: every move of the receive engine keeps the Receive Context, and a call that starts has one empty
buffer. -/
theorem everyStepKeepsReceiveContext : Obligations.EveryStepKeepsReceiveContext := by
  unfold Obligations.EveryStepKeepsReceiveContext
  intro s t hi h
  cases (step_sides h).2 with
  | keeps eq => exact hi.of_recvRegs eq
  | moves rest _ run move =>
    have hi' : RxInv { s with turns := rest } := hi.of_recvRegs rfl
    obtain ⟨done, f, hrec⟩ := hi'.receiving run
    exact move.keeps_rxInv hrec
  | starts s1 _ eq => subst eq; exact (receiving_startReceive s1).rxInv
  | constructs s1 _ eq => subst eq; exact rxInv_of_stopped rfl

end Sys2Proof.Machine
end

section
/-! SUPPORT. Which turns can stop the block: inside the invariants no engine turn does, and no other turn ends in a
fault (10_state R45, 43_orchestrator R264; log 18). -/

namespace Sys2Proof.Machine

/-! ### Actions that always answer a next state -/

/-- The action answers a next state: no fault and no refusal. -/
def Answers (o : Host.Outcome State Fault Refusal) : Prop := ∃ t, o = .next t

/-- The action does not end in a fault. -/
def NoFault (o : Host.Outcome State Fault Refusal) : Prop := ∀ f, o ≠ .fault f

/-- A next state is an answer. -/
theorem answers_next (t : State) : Answers (.next t) := ⟨t, rfl⟩

/-- A next state is no fault. -/
theorem Answers.noFault {o : Host.Outcome State Fault Refusal} (h : Answers o) : NoFault o := by
  obtain ⟨t, rfl⟩ := h
  exact fun f => nofun

/-- A next state is no refusal. -/
theorem Answers.not_refused {o : Host.Outcome State Fault Refusal} (h : Answers o) (r : Refusal) : o ≠ .refused r := by
  obtain ⟨t, rfl⟩ := h
  nofun

/-- `AnswerWait` answers: it waits or emits an event (41_send_fsm R163). -/
theorem answerWait_answers (st : SendState) (s : State) : Answers (answerWait st s) := by
  unfold answerWait
  split <;> exact answers_next _

/-- A send-side write answers (60_exceptions R335). -/
theorem sendWrite_answers (st : SendState) (bs : Bytes) (s : State) : Answers (sendWrite st bs s) := by
  unfold sendWrite
  split <;> exact answers_next _

/-- A receive-side write answers (60_exceptions R335). -/
theorem recvWrite_answers (st : RecvState) (b : Byte) (s : State) : Answers (recvWrite st b s) := by
  unfold recvWrite
  split <;> exact answers_next _

/-- A field of one byte answers if there is a frame in progress (42_receive_fsm R204). -/
theorem field1_answers {s : State} (h : s.rxf ≠ []) (st : RecvState) (k : Byte → State → State) :
    Answers (field1 st k s) := by
  unfold field1
  rw [if_neg h]
  split <;> exact answers_next _

/-- A field of `n` bytes answers if there is a frame in progress (42_receive_fsm R204). -/
theorem fieldN_answers {s : State} (h : s.rxf ≠ []) (st : RecvState) (n : Nat) (k : Bytes → State → State) :
    Answers (fieldN st n k s) := by
  unfold fieldN
  rw [if_neg h]
  split <;> exact answers_next _

/-! ### The send engine -/

/-- Send `reenquiry` answers (41_send_fsm R166). -/
theorem execSReenquiry_answers (s : State) : Answers (execSReenquiry s) := by
  unfold execSReenquiry
  split
  · exact sendWrite_answers _ _ _
  · split <;> exact answers_next _

/-- Send `frame` answers if the cursor names a frame (41_send_fsm R168, 10_state R27). -/
theorem execSFrame_answers {s : State} (h : s.txCursor.toNat < s.txf.length) : Answers (execSFrame s) := by
  simp only [execSFrame, List.getElem?_eq_getElem h]
  exact sendWrite_answers _ _ _

/-- Send `retry` answers (41_send_fsm R170). -/
theorem execSRetry_answers (s : State) : Answers (execSRetry s) := by
  unfold execSRetry
  split
  · dsimp only; split <;> exact answers_next _
  · exact answers_next _
  · split <;> exact answers_next _
  · dsimp only; split <;> exact answers_next _

/-- A turn of the send engine answers a next state if the cursor names a frame. -/
theorem sendTurn_answers {s : State} (h : s.txCursor.toNat < s.txf.length) : Answers (exec (sendInstr s.sState) s) := by
  cases s.sState with
  | idle => exact answers_next _
  | enquiry =>
    change Answers (execSEnquiry s)
    unfold execSEnquiry
    split <;> exact answers_next _
  | reenquiry => exact execSReenquiry_answers s
  | ack => exact answerWait_answers _ s
  | frame => exact execSFrame_answers h
  | ack2 => exact answerWait_answers _ s
  | retry => exact execSRetry_answers s
  | nak => exact sendWrite_answers _ _ s
  | wait =>
    change Answers (execSWait s)
    unfold execSWait
    split <;> exact answers_next _
  | done =>
    change Answers (execSDone s)
    unfold execSDone
    split <;> exact answers_next _
  | error => exact answers_next _
  | end_ => exact answers_next _

/-! ### The frames a receive has collected have a payload -/

/-- A list of divided frames has a payload (40_frame_codec R142). -/
theorem parseDivided_isSome {fs : List Frame} (h : dividedListFits fs = true) : (parseDivided fs).isSome = true := by
  cases fs with
  | nil => cases h
  | cons f0 rest => simp [parseDivided, h]

/-- A single regular frame that is long enough has a payload (40_frame_codec R139, R140). -/
theorem parseFrames_regular {f : Frame} (hm : isExtended f = false) (hl : 4 ≤ f.length) :
    (parseFrames [f]).isSome = true := by
  simp [parseFrames, hm, regularListFits, parseRegular, regularFits, hl]

/-- A single extended frame whose EXTLEN does not select the divided shape has a payload (40_frame_codec R139, R141). -/
theorem parseFrames_extended {f : Frame} (hm : isExtended f = true)
    (hs : selectsDivided false (unbe (slice f 5 8)) = false) (hl : 10 ≤ f.length) :
    (parseFrames [f]).isSome = true := by
  simp [parseFrames, hm, hs, parseExtended, extendedFits, hl]

/-- Frames that begin with a divided one have a payload if the later ones fit too (40_frame_codec R139, R142). -/
theorem parseFrames_divided {f0 : Frame} {rest : List Frame} (hf : CompletedBuffer f0)
    (hs : selectsDivided (!rest.isEmpty) (unbe (slice f0 5 8)) = true) (hr : ∀ g ∈ rest, laterFits g = true) :
    (parseFrames (f0 :: rest)).isSome = true := by
  obtain ⟨hm, hfits⟩ := hf
  have hlist : dividedListFits (f0 :: rest) = true := by
    simpa [dividedListFits, hfits] using hr
  simpa [parseFrames, hm, hs] using parseDivided_isSome hlist

/-- A completed buffer fits as a later frame of its division. -/
theorem CompletedBuffer.laterFits {f : Frame} (h : CompletedBuffer f) : laterFits f = true := by
  obtain ⟨hm, hfits⟩ := h
  simp [Machine.laterFits, hm, hfits]

section

variable {s : State} {done : List Frame} {f : Frame}

/-- After a completed buffer, a whole frame is divided or regular, and either fits (42_receive_fsm R213, R222). -/
theorem laterFits_of_decided (hmid : s.midDivision = true) (hlength : f.length = rxBeforeEtx s + 2)
    (hdecided : rxDecided s f) : laterFits f = true := by
  cases hs : s.rxShape with
  | none => simp [rxDecided, hs] at hdecided
  | extPending => simp [rxDecided, hs] at hdecided
  | regular =>
    simp only [rxDecided, hs, Config.regLenMin_eq] at hdecided
    simp only [rxBeforeEtx, hs] at hlength
    simp [laterFits, hdecided.1]
    omega
  | extended => simp [rxDecided, hs, hmid] at hdecided
  | divided => exact (completedBuffer_of_divided hs hlength hdecided).laterFits

/-- A whole frame that is the only one of its message has a payload (40_frame_codec R139). -/
theorem parseFrames_singleton (hmid : s.midDivision = false) (hlength : f.length = rxBeforeEtx s + 2)
    (hdecided : rxDecided s f) : (parseFrames [f]).isSome = true := by
  cases hs : s.rxShape with
  | none => simp [rxDecided, hs] at hdecided
  | extPending => simp [rxDecided, hs] at hdecided
  | regular =>
    simp only [rxDecided, hs, Config.regLenMin_eq] at hdecided
    obtain ⟨hm, hmin, -⟩ := hdecided
    simp only [rxBeforeEtx, hs] at hlength
    exact parseFrames_regular hm (by omega)
  | extended =>
    simp only [rxDecided, hs, Config.extOverhead_eq] at hdecided
    obtain ⟨hm, -, hmin, hmax, hfield⟩ := hdecided
    simp only [rxBeforeEtx, hs] at hlength
    refine parseFrames_extended hm ?_ (by omega)
    rw [hfield]
    simpa [selectsDivided] using hmax
  | divided =>
    have hf := completedBuffer_of_divided hs hlength hdecided
    simp only [rxDecided, hs] at hdecided
    obtain ⟨-, hsel, -, -, hfield⟩ := hdecided
    refine parseFrames_divided hf ?_ (by simp)
    rw [hmid] at hsel
    rw [hfield]
    exact hsel

/-- At `end` of a `receive` that succeeded the frames have a payload (42_receive_fsm R224, 43_orchestrator R264). -/
theorem Receiving.parseFrames_isSome (hi : Receiving s done f) (st : s.rState = .end_) (ok : s.rxOk = true) :
    (parseFrames s.rxf).isSome = true := by
  obtain ⟨hlength, hdecided⟩ : f.length = rxBeforeEtx s + 2 ∧ rxDecided s f := (hi.inState st :) ok
  have hmid := midDivision_of_store hi.store
  have hcompleted := hi.completed
  rw [hi.store]
  cases done with
  | nil => exact parseFrames_singleton hmid hlength hdecided
  | cons f0 rest =>
    obtain ⟨hf0, hrest⟩ := List.forall_mem_cons.mp hcompleted
    refine parseFrames_divided hf0 (by simp [selectsDivided]) (List.forall_mem_append.mpr ⟨?_, ?_⟩)
    · exact fun g hg => (hrest g hg).laterFits
    · simpa using laterFits_of_decided hmid hlength hdecided

/-! ### The receive engine -/

/-- Once the shape is decided, `data` has a number of bytes to read (42_receive_fsm R216). -/
theorem rxDataCount_isSome (h : rxDecided s f) : (rxDataCount s).isSome = true := by
  unfold rxDecided at h
  unfold rxDataCount
  cases hs : s.rxShape <;> simp [hs] at h ⊢ <;> omega

/-- Receive `data` answers once the shape is decided. -/
theorem Receiving.data_answers (hi : Receiving s done f) (st : s.rState = .data) : Answers (execRData s) := by
  obtain ⟨-, hdecided⟩ : f.length = rxBeforeData s ∧ rxDecided s f := (hi.inState st :)
  obtain ⟨n, hn⟩ := Option.isSome_iff_exists.mp (rxDataCount_isSome hdecided)
  unfold execRData
  rw [hn]
  cases n with
  | zero => exact answers_next _
  | succ n => exact fieldN_answers hi.ne_nil _ _ _

/-- Receive `end` answers: a `receive` that succeeded has a payload. -/
theorem Receiving.end_answers (hi : Receiving s done f) (st : s.rState = .end_) : Answers (execREnd s) := by
  unfold execREnd
  dsimp only
  split
  · next ok =>
    obtain ⟨p, hp⟩ := Option.isSome_iff_exists.mp (hi.parseFrames_isSome st ok)
    rw [hp]
    exact answers_next _
  · exact answers_next _

/-- Receive `poll` answers (42_receive_fsm R206). -/
theorem execRPoll_answers (s : State) : Answers (execRPoll s) := by
  unfold execRPoll
  split
  · split <;> exact answers_next _
  · split <;> exact answers_next _

/-- Receive `enquiry` answers (42_receive_fsm R208). -/
theorem execREnquiry_answers (s : State) : Answers (execREnquiry s) := by
  unfold execREnquiry
  split <;> exact answers_next _

/-- Receive `cs` answers if there is a frame in progress (42_receive_fsm R218). -/
theorem execRCs_answers (h : s.rxf ≠ []) : Answers (execRCs s) := by
  unfold execRCs
  rw [if_neg h]
  split <;> exact answers_next _

/-- Receive `retry` answers if there is a frame in progress (42_receive_fsm R221). -/
theorem execRRetry_answers (h : s.rxf ≠ []) : Answers (execRRetry s) := by
  unfold execRRetry
  rw [if_neg h]
  dsimp only
  split <;> exact answers_next _

/-- A turn of the receive engine answers a next state inside the Receive Context. -/
theorem Receiving.turn_answers (hi : Receiving s done f) : Answers (exec (recvInstr s.rState) s) := by
  have hne := hi.ne_nil
  cases st : s.rState with
  | idle => exact answers_next _
  | poll => exact execRPoll_answers s
  | repoll => exact answers_next _
  | enquiry => exact execREnquiry_answers s
  | ack => exact recvWrite_answers _ _ s
  | stx => exact field1_answers hne _ _
  | len => exact field1_answers hne _ _
  | datacmd => exact fieldN_answers hne _ _ _
  | dataextlen =>
    change Answers (execRDataextlen s)
    unfold execRDataextlen
    split
    · exact answers_next _
    · exact fieldN_answers hne _ _ _
  | dataframenumber =>
    change Answers (execRDataframenumber s)
    unfold execRDataframenumber
    split
    · exact fieldN_answers hne _ _ _
    · exact answers_next _
  | data => exact hi.data_answers st
  | etx => exact field1_answers hne _ _
  | cs => exact execRCs_answers hne
  | ack2 => exact recvWrite_answers _ _ s
  | nak => exact recvWrite_answers _ _ s
  | retry => exact execRRetry_answers hne
  | done =>
    change Answers (execRDone s)
    unfold execRDone
    split <;> exact answers_next _
  | error => exact answers_next _
  | end_ => exact hi.end_answers st

end

/-! ### The other turns -/

/-- A build operation never faults (40_frame_codec R133). -/
theorem buildResult_noFault (r : Option (List Frame)) (s : State) : NoFault (buildResult r s) := by
  cases r <;> exact fun f => nofun

/-- A parse operation never faults (40_frame_codec R139). -/
theorem parseResult_noFault (r : Option Bytes) (s : State) : NoFault (parseResult r s) := by
  cases r <;> exact fun f => nofun

/-- The codec asked by itself never faults (40_frame_codec R133, R139). -/
theorem exec_codec_noFault (r : CodecRequest) (s : State) : NoFault (exec (codecInstr r) s) := by
  cases r with
  | buildFrames p =>
    change NoFault (execBuildFrames p s)
    unfold execBuildFrames
    split
    · exact buildResult_noFault _ s
    · exact fun f => nofun
  | buildRegular p => exact buildResult_noFault (some _) s
  | buildExtended p => exact buildResult_noFault (some _) s
  | buildDivided p => exact buildResult_noFault _ s
  | parseFrames fs => exact parseResult_noFault _ s
  | parseRegular f => exact parseResult_noFault _ s
  | parseExtended f => exact parseResult_noFault _ s
  | parseDivided fs => exact parseResult_noFault _ s

/-- A request of the host never faults (43_orchestrator R260 to R268). -/
theorem exec_host_noFault (r : HostRequest) (s : State) : NoFault (exec (hostInstr r) s) := by
  intro f h
  cases r with
  | construct =>
    change execConstruct s = _ at h
    unfold execConstruct at h
    split at h
    · cases h
    · split at h <;> cases h
  | send p =>
    change execSend p s = _ at h
    unfold execSend at h
    split at h
    · split at h
      · cases h
      · split at h
        · cases h
        · split at h <;> cases h
    · cases h
  | receive =>
    change execReceive s = _ at h
    unfold execReceive at h
    split at h
    · split at h <;> cases h
    · cases h
  | destruct =>
    change execDestruct s = _ at h
    unfold execDestruct at h
    split at h
    · split at h <;> cases h
    · cases h
  | readCounters =>
    change execReadCounters s = _ at h
    unfold execReadCounters at h
    split at h <;> cases h

/-- A turn that is no engine's fetches a wire unit, a request to the codec or a request of the host (43_orchestrator
R269). -/
theorem fetch_cases {u : Turn} (hu : ∀ e, u ≠ .engine e) {s s' : State} {c : Code} (h : fetch u s = some (c, s')) :
    (∃ ctx bs, c = .wire ctx bs) ∨ (∃ r, c = .codec r) ∨ ∃ r, c = .host r := by
  cases u with
  | engine e => exact absurd rfl (hu e)
  | unit ctx bs => cases h; exact .inl ⟨ctx, bs, rfl⟩
  | codec r => cases h; exact .inr (.inl ⟨r, rfl⟩)
  | host r => cases h; exact .inr (.inr ⟨r, rfl⟩)
  | heldSend k =>
    simp only [fetch] at h
    split at h
    · cases h; exact .inr (.inr ⟨_, rfl⟩)
    · cases h
  | heldReceive =>
    simp only [fetch] at h
    split at h
    · cases h; exact .inr (.inr ⟨_, rfl⟩)
    · cases h
  | arrive bs => cases h
  | deliver n => cases h
  | collect k => cases h

/-- A turn that is no engine's never faults. -/
theorem step_noFault_of_other {s : State} {u : Turn} {rest : List Turn} (ht : s.turns = u :: rest)
    (hu : ∀ e, u ≠ .engine e) : NoFault (step s) := by
  unfold step
  simp only [ht]
  split
  · exact fun f => nofun
  · next c s' hf =>
    split
    · next i hd =>
      obtain ⟨ctx, bs, rfl⟩ | ⟨r, rfl⟩ | ⟨r, rfl⟩ := fetch_cases hu hf
      · obtain ⟨bs', he⟩ := exec_isWire (decode_wire_isWire hd) s'
        exact Answers.noFault ⟨_, he⟩
      · cases hd; exact exec_codec_noFault r s'
      · cases hd; exact exec_host_noFault r s'
    · exact fun f => nofun

/-- Inside the invariants an engine's turn answers a next state. -/
theorem step_engine_answers {s : State} (htx : TxInv s) (hrx : RxInv s) {e : Engine} {rest : List Turn}
    (ht : s.turns = .engine e :: rest) : Answers (step s) := by
  cases e with
  | send =>
    cases hr : s.sRun with
    | false => exact ⟨_, step_sendStopped ht hr⟩
    | true =>
      rw [step_send ht hr rfl]
      exact sendTurn_answers (s := { s with turns := rest }) (htx.cursor hr)
  | recv =>
    cases hr : s.rRun with
    | false => exact ⟨_, step_recvStopped ht hr⟩
    | true =>
      have hrx' : RxInv { s with turns := rest } := hrx.of_recvRegs rfl
      obtain ⟨done, f, hrec⟩ := hrx'.receiving hr
      rw [step_recv ht hr rfl]
      exact hrec.turn_answers

/-- Settles O49: engine turns answer a next state, and the other turns never fault. -/
theorem noFaultInsideTheInvariants : Obligations.NoFaultInsideTheInvariants := by
  unfold Obligations.NoFaultInsideTheInvariants
  intro s htx hrx
  refine ⟨?_, fun e rest r ht => (step_engine_answers htx hrx ht).not_refused r⟩
  cases ht : s.turns with
  | nil =>
    have hidle : Answers (step s) := ⟨s, by simp only [step, ht]⟩
    exact hidle.noFault
  | cons u rest =>
    by_cases hu : ∃ e, u = .engine e
    · obtain ⟨e, rfl⟩ := hu
      exact (step_engine_answers htx hrx ht).noFault
    · exact step_noFault_of_other ht (not_exists.mp hu)

end Sys2Proof.Machine
end

section
/-! SUPPORT. Which moves of an engine call the device or touch its streams, and who owns the lock then (20_memory R74,
41_send_fsm R177, 42_receive_fsm R226). -/

namespace Sys2Proof.Machine

/-- The step from `s` to `t` has called no device primitive and touched no stream: it took no answer (log 2) and left both
streams and the device as they were. -/
def SameDevice (s t : State) : Prop :=
  t.answers = s.answers ∧ t.devIn = s.devIn ∧ t.devOut = s.devOut ∧ t.deviceOpen = s.deviceOpen

/-- A step with an access to the device is none that leaves it alone. -/
theorem SameDevice.not_accessed {s t : State} (h : SameDevice s t) :
    ¬ (t.answers ≠ s.answers ∨ t.devIn ≠ s.devIn ∨ t.devOut ≠ s.devOut ∨ t.deviceOpen ≠ s.deviceOpen) := by
  obtain ⟨hanswers, hin, hout, hopen⟩ := h
  simp [hanswers, hin, hout, hopen]

/-! ### The send engine -/

/-- The send states that read or write are states of the lock's owner (41_send_fsm R177). -/
theorem sendOwns_of_plain {s : State} (h : sendPlain s.sState = true) : sendOwns s = true := by
  unfold sendOwns
  revert h
  cases s.sState <;> simp [sendPlain]

/-- A move of the send engine with an access to the device is one of a state that owns the lock, or the close or the open
of `retry` (41_send_fsm R177, 70_reset_and_hazards R367). -/
theorem SendMove.device_access {s t : State} (h : SendMove s t) :
    SameDevice s t ∨ sendOwns s = true ∨
      (s.sState = .retry ∧ (s.sPhase = .close ∨ s.sPhase = .reopen) ∧ t.devOut = s.devOut) := by
  cases h with
  | emits _ _ _ _ _ st plain => exact .inr (.inl (sendOwns_of_plain (st ▸ plain)))
  | drains _ _ _ st | drained _ st => exact .inr (.inl (sendOwns_of_plain (st ▸ rfl)))
  | retryClose st ph => exact .inr (.inr ⟨st, .inl ph, rfl⟩)
  | retryOpen _ _ _ st ph => exact .inr (.inr ⟨st, .inr ph, rfl⟩)
  | _ => exact .inl ⟨rfl, rfl, rfl, rfl⟩

/-! ### The receive engine -/

/-- The receive engine is in a state that is entered only with the lock: a failed `poll` reaches `error` and `end` without it
(42_receive_fsm R226). -/
def recvHoldsLock (s : State) : Prop := recvOwns s = true ∧ s.rState ≠ .error ∧ s.rState ≠ .end_

/-- The four receive states that can be entered without the lock. -/
theorem recvHoldsLock_iff {s : State} :
    recvHoldsLock s ↔ s.rState ≠ .idle ∧ s.rState ≠ .poll ∧ s.rState ≠ .error ∧ s.rState ≠ .end_ := by
  unfold recvHoldsLock recvOwns
  cases s.rState <;> simp

/-- Where ownership follows the states, a running `receive` in such a state owns the lock. -/
theorem LockInv.recv_owner {s : State} (hi : LockInv s) (hr : s.rRun = true) (h : recvHoldsLock s) :
    s.lockOwner = some .recv := by
  obtain ⟨howns, herror, hend⟩ := h
  exact (hi.recv hr herror hend).mpr howns

/-- The receive states whose action is device calls and an event hold the lock. -/
theorem recvHoldsLock_of_plain {s : State} {rs : RecvState} {ev : Event} (st : s.rState = rs)
    (h : recvPlain rs ev = true) : recvHoldsLock s := by
  rw [recvHoldsLock_iff, st]
  refine ⟨?_, ?_, ?_, ?_⟩ <;> rintro rfl <;> simp [recvPlain] at h

/-- A move of the receive engine with an access to the device is one of a state that holds the lock, or the poll of
`poll`, which takes an answer and touches no stream (42_receive_fsm R226). -/
theorem RecvMove.device_access {s t : State} (h : RecvMove s t) :
    SameDevice s t ∨ recvHoldsLock s ∨ (s.rState = .poll ∧ t.devIn = s.devIn ∧ t.devOut = s.devOut) := by
  have holds {rs : RecvState} (st : s.rState = rs)
      (hrs : rs ≠ .idle ∧ rs ≠ .poll ∧ rs ≠ .error ∧ rs ≠ .end_) : recvHoldsLock s := recvHoldsLock_iff.mpr (st ▸ hrs)
  cases h with
  | emits _ _ _ _ _ st plain => exact .inr (.inl (recvHoldsLock_of_plain st plain))
  | pollReadable _ st | pollFail _ st => exact .inr (.inr ⟨st, rfl, rfl⟩)
  | drained _ st | drains _ _ _ st | stx _ _ _ st | len _ _ _ st | datacmd _ _ _ st | extlen _ _ _ st | number _ _ _ st
  | data _ _ _ st | etx _ _ _ st | cs _ _ _ st => exact .inr (.inl (holds st (by decide)))
  | _ => exact .inl ⟨rfl, rfl, rfl, rfl⟩

/-! ### The obligation -/

/-- Settles O55: a move with an access to the device is made in a state that owns the lock, but for the close, the open and
the poll. -/
theorem deviceOnlyUnderTheLock : Obligations.DeviceOnlyUnderTheLock := by
  unfold Obligations.DeviceOnlyUnderTheLock
  refine ⟨fun s t rest hi ht h haccess => ?_, fun s t rest hi ht h haccess => ?_⟩
  · obtain ⟨-, rfl⟩ | ⟨hr, hm⟩ := step_sendTurn ht h
    · simp at haccess
    · obtain hsame | howns | hreopen := hm.device_access
      · exact absurd haccess hsame.not_accessed
      · exact .inl ((hi.send hr).mpr howns)
      · exact .inr hreopen
  · obtain ⟨-, rfl⟩ | ⟨hr, hm⟩ := step_recvTurn ht h
    · simp at haccess
    · obtain hsame | hholds | hpoll := hm.device_access
      · exact absurd haccess hsame.not_accessed
      · exact .inl (hi.recv_owner hr hholds)
      · exact .inr hpoll

end Sys2Proof.Machine
end

section
/-! SUPPORT. The fields of a wire unit: big-endian numbers and division flags, as bytes and as numbers (00_scope R14,
30_encoding R96, R112, 20_memory R62). -/

namespace Sys2Proof.Machine

/-! ### Big-endian fields -/

/-- Two bytes side by side are a number of base 256. -/
theorem append_toNat (a b : Byte) : (a ++ b).toNat = a.toNat * 256 + b.toNat := by
  rw [BitVec.toNat_append, ← Nat.shiftLeft_add_eq_or_of_lt b.isLt, Nat.shiftLeft_eq]

/-- The low byte of a number is the byte of that value. -/
theorem byte_ofNat_eq {n : Nat} {b : Byte} (h : n % 256 = b.toNat) : BitVec.ofNat 8 n = b :=
  BitVec.eq_of_toNat_eq (by rw [BitVec.toNat_ofNat]; exact h)

/-- `be16` makes two bytes. -/
@[simp] theorem be16_length (n : Nat) : (be16 n).length = 2 := rfl

/-- `be24` makes three bytes. -/
@[simp] theorem be24_length (n : Nat) : (be24 n).length = 3 := rfl

/-- Two bytes are the big-endian encoding of the number they make up. -/
theorem be16_append (a b : Byte) : be16 (a ++ b).toNat = [a, b] := by
  have ha := a.isLt
  have hb := b.isLt
  rw [be16, append_toNat, byte_ofNat_eq (b := a) (by omega), byte_ofNat_eq (b := b) (by omega)]

/-- The two bytes of a 16-bit number, side by side, are the number. -/
theorem append_of_be16 (w : BitVec 16) : (BitVec.ofNat 8 (w.toNat / 256) ++ BitVec.ofNat 8 w.toNat : BitVec 16) = w := by
  apply BitVec.eq_of_toNat_eq
  have hw := w.isLt
  rw [append_toNat, BitVec.toNat_ofNat, BitVec.toNat_ofNat]
  omega

/-- Two bytes hold a number modulo `2 ^ 16`, as a 16-bit register does. -/
theorem be16_ofNat (n : Nat) : be16 (BitVec.ofNat 16 n).toNat = be16 n := by
  rw [BitVec.toNat_ofNat]
  simp only [be16, List.cons.injEq, ← BitVec.toNat_inj, BitVec.toNat_ofNat, and_true]
  omega

/-- The number that three bytes encode. -/
theorem unbe_three (a b c : Byte) : unbe [a, b, c] = a.toNat * 65536 + b.toNat * 256 + c.toNat := by
  simp only [unbe, List.foldl_cons, List.foldl_nil]
  omega

/-- Three bytes are enough for a number below `2 ^ 24` (20_memory R62). -/
theorem unbe_be24 {v : Nat} (hv : v < 16777216) : unbe (be24 v) = v := by
  rw [be24, unbe_three, BitVec.toNat_ofNat, BitVec.toNat_ofNat, BitVec.toNat_ofNat]
  omega

/-- Three bytes are the big-endian encoding of the number they make up. -/
theorem be24_unbe (a b c : Byte) : be24 (unbe [a, b, c]) = [a, b, c] := by
  have ha := a.isLt
  have hb := b.isLt
  have hc := c.isLt
  rw [unbe_three, be24, byte_ofNat_eq (b := a) (by omega), byte_ofNat_eq (b := b) (by omega),
    byte_ofNat_eq (b := c) (by omega)]

/-! ### Division flags -/

/-- The division flags are bits 1..0 of the codebit. -/
theorem codebitFlags_toNat (cb : Byte) : (codebitFlags cb).toNat = cb.toNat % 4 := by
  simp [codebitFlags]

/-- More frames follow when the flags are 10. -/
theorem flagsMore_iff (cb : Byte) : flagsMore cb = true ↔ cb.toNat % 4 = 2 := by
  rw [← codebitFlags_toNat]
  simp [flagsMore, ← BitVec.toNat_inj]

/-- A frame is the last one when its flags are 11. -/
theorem flagsLast_iff (cb : Byte) : flagsLast cb = true ↔ cb.toNat % 4 = 3 := by
  rw [← codebitFlags_toNat]
  simp [flagsLast, ← BitVec.toNat_inj]

/-- A frame that says more does not say last. -/
theorem flagsLast_of_more {cb : Byte} (h : flagsMore cb = true) : flagsLast cb = false := by
  rw [flagsMore_iff] at h
  rw [Bool.eq_false_iff, Ne, flagsLast_iff]
  omega

/-- The flags of a codebit with a flag OR-ed into it (40_frame_codec R137). -/
theorem codebitFlags_or (cb flag : Byte) : codebitFlags (cb ||| flag) = codebitFlags cb ||| codebitFlags flag := by
  simp [codebitFlags, BitVec.extractLsb'_or]

/-- OR-ing 0x03 into a codebit says last, whatever its flags were. -/
theorem flagsLast_or_last (cb : Byte) : flagsLast (cb ||| 0x03) = true := by
  have key : ∀ f : BitVec 2, (f ||| codebitFlags 0x03).toNat = 3 := by decide
  rw [flagsLast_iff, ← codebitFlags_toNat, codebitFlags_or]
  exact key _

/-- OR-ing 0x02 into a codebit keeps bit 0 of its flags. -/
theorem flags_or_more (cb : Byte) : (cb ||| 0x02).toNat % 4 = 2 + cb.toNat % 2 := by
  have key : ∀ f : BitVec 2, (f ||| codebitFlags 0x02).toNat = 2 + f.toNat % 2 := by decide
  have hbit : cb.toNat % 4 % 2 = cb.toNat % 2 := by omega
  rw [← codebitFlags_toNat, codebitFlags_or, key, codebitFlags_toNat, hbit]

end Sys2Proof.Machine
end

section
/-! SUPPORT. What the decoder reads from each part of a unit (30_encoding R94 to R112): from whole parts followed by
anything, and from parts that are cut short. -/

namespace Sys2Proof.Machine

variable {cmd sub cb n1 n0 t1 t0 e cs : Byte} {data chunk r rest : Bytes} {mid : Bool} {v : Nat}

/-! ### The end of a frame -/

/-- After the data bytes the decoder asks for ETX and takes the checksum byte as it stands (30_encoding R110). -/
theorem decodeTail_append : decodeTail data.length (data ++ e :: cs :: rest) =
    if e = Config.ETX then .ok (data, cs, rest) else .error .noEtx := by
  simp only [decodeTail, List.drop_left, List.take_left]

/-- The end of a frame is cut short when ETX or the checksum byte is missing. -/
theorem decodeTail_truncated {n : Nat} (h : r.length < n + 2) : decodeTail n r = .error .truncated := by
  unfold decodeTail
  split
  · next heq =>
    have hlen := congrArg List.length heq
    simp at hlen
    omega
  · rfl

/-- The end of a frame that is read is its data, ETX and a checksum byte. -/
theorem decodeTail_eq_ok {n : Nat} (h : decodeTail n r = .ok (data, cs, rest)) :
    data.length = n ∧ r = data ++ Config.ETX :: cs :: rest := by
  unfold decodeTail at h
  split at h
  · next heq =>
    split at h
    · next he =>
      cases h
      have hlen := congrArg List.length heq
      simp at hlen
      refine ⟨by simp; omega, ?_⟩
      rw [← he, ← heq, List.take_append_drop]
    · cases h
  · cases h

/-! ### A regular frame after LEN -/

/-- The bytes after the LEN byte of a regular frame (30_encoding R98). -/
theorem decodeRegular_append {len : Byte} (hlen : len.toNat = data.length + 5) :
    decodeRegular len (cmd :: sub :: cb :: (data ++ e :: cs :: rest)) =
      if e = Config.ETX then .ok (.frameReg cmd sub cb data cs, rest) else .error .noEtx := by
  have hn : len.toNat - Config.regOverhead = data.length := by simp [hlen]
  simp only [decodeRegular, hn, decodeTail_append]
  by_cases he : e = Config.ETX
  · simp only [if_pos he]
  · simp only [if_neg he]

/-- After LEN a regular frame has LEN bytes, the checksum byte included. -/
theorem decodeRegular_truncated {len : Byte} (hmin : 5 ≤ len.toNat) (h : r.length < len.toNat) :
    decodeRegular len r = .error .truncated := by
  unfold decodeRegular
  split
  · rw [decodeTail_truncated (by simp at h ⊢; omega)]
  · rfl

/-- A regular frame that is read has as many data bytes as LEN says. -/
theorem decodeRegular_eq_ok {len : Byte} {i : Instr} (hmin : 5 ≤ len.toNat) (h : decodeRegular len r = .ok (i, rest)) :
    ∃ cmd sub cb data cs, i = .frameReg cmd sub cb data cs ∧ data.length + 5 = len.toNat ∧
      r = cmd :: sub :: cb :: (data ++ Config.ETX :: cs :: rest) := by
  unfold decodeRegular at h
  split at h
  · split at h
    · next htail =>
      cases h
      obtain ⟨hn, rfl⟩ := decodeTail_eq_ok htail
      exact ⟨_, _, _, _, _, rfl, by rw [hn, Config.regOverhead_eq]; omega, rfl⟩
    · cases h
  · cases h

/-! ### A frame of an extended shape after EXTLEN -/

/-- EXTLEN of an undivided frame is at least its overhead (30_encoding R109). -/
theorem decodeUndivided_illegal (h : v < 5) : decodeUndivided cmd sub cb v r = .error .illegalExtLen := by
  rw [decodeUndivided, Config.extOverhead_eq, if_pos h]

/-- The bytes after EXTLEN of an undivided extended frame (30_encoding R100). -/
theorem decodeUndivided_append : decodeUndivided cmd sub cb (data.length + 5) (data ++ e :: cs :: rest) =
    if e = Config.ETX then .ok (.frameExt cmd sub cb data cs, rest) else .error .noEtx := by
  have hlegal : ¬ data.length + 5 < 5 := by omega
  simp only [decodeUndivided, Config.extOverhead_eq, if_neg hlegal, Nat.add_sub_cancel, decodeTail_append]
  by_cases he : e = Config.ETX
  · simp only [if_pos he]
  · simp only [if_neg he]

/-- An undivided extended frame is cut short when ETX or the checksum byte is missing. -/
theorem decodeUndivided_truncated (hmin : 5 ≤ v) (h : r.length + 3 < v) :
    decodeUndivided cmd sub cb v r = .error .truncated := by
  have hlegal : ¬ v < 5 := by omega
  simp only [decodeUndivided, Config.extOverhead_eq, if_neg hlegal]
  rw [decodeTail_truncated (by omega)]

/-- An undivided extended frame that is read has as many data bytes as EXTLEN says. -/
theorem decodeUndivided_eq_ok {i : Instr} (h : decodeUndivided cmd sub cb v r = .ok (i, rest)) :
    ∃ data cs, i = .frameExt cmd sub cb data cs ∧ data.length + 5 = v ∧ r = data ++ Config.ETX :: cs :: rest := by
  simp only [decodeUndivided, Config.extOverhead_eq] at h
  split at h
  · cases h
  · split at h
    · next htail =>
      cases h
      obtain ⟨hn, rfl⟩ := decodeTail_eq_ok htail
      exact ⟨_, _, rfl, by omega, rfl⟩
    · cases h

/-- EXTLEN of a divided frame lies between its overhead and a full chunk (30_encoding R109). -/
theorem decodeDivided_illegal (h : v < 12 ∨ 1036 < v) : decodeDivided cmd sub cb v r = .error .illegalExtLen := by
  unfold decodeDivided
  rw [Config.divOverhead_eq, Config.chunkMax_eq, if_pos h]

/-- The bytes after EXTLEN of a divided frame: ETX first, then the division flags (30_encoding R102, R107). -/
theorem decodeDivided_append (hc : chunk.length ≤ 1024) :
    decodeDivided cmd sub cb (chunk.length + 12) (n1 :: n0 :: t1 :: t0 :: (chunk ++ e :: cs :: rest)) =
      if e = Config.ETX then
        if flagsLast cb then .ok (.frameDivLast cmd sub cb (n1 ++ n0) (t1 ++ t0) chunk cs, rest)
        else if flagsMore cb then .ok (.frameDivMore cmd sub cb (n1 ++ n0) (t1 ++ t0) chunk cs, rest)
        else .error .divisionFlags
      else .error .noEtx := by
  have hlegal : ¬ (chunk.length + 12 < 12 ∨ 12 + 1024 < chunk.length + 12) := by omega
  simp only [decodeDivided, Config.divOverhead_eq, Config.chunkMax_eq, if_neg hlegal, Nat.add_sub_cancel,
    decodeTail_append]
  by_cases he : e = Config.ETX
  · simp only [if_pos he]
  · simp only [if_neg he]

/-- A divided frame is cut short when a byte of its numbers, of its chunk or after it is missing. -/
theorem decodeDivided_truncated (hmin : 12 ≤ v) (hmax : v ≤ 1036) (h : r.length + 6 < v) :
    decodeDivided cmd sub cb v r = .error .truncated := by
  have hlegal : ¬ (v < 12 ∨ 12 + 1024 < v) := by omega
  simp only [decodeDivided, Config.divOverhead_eq, Config.chunkMax_eq, if_neg hlegal]
  split
  · rw [decodeTail_truncated (by simp at h ⊢; omega)]
  · rfl

/-- A divided frame that is read has as many chunk bytes as EXTLEN says, and its flags name its instruction. -/
theorem decodeDivided_eq_ok {i : Instr} (h : decodeDivided cmd sub cb v r = .ok (i, rest)) :
    ∃ n1 n0 t1 t0 chunk cs, chunk.length + 12 = v ∧ chunk.length ≤ 1024 ∧
      r = n1 :: n0 :: t1 :: t0 :: (chunk ++ Config.ETX :: cs :: rest) ∧
      (i = .frameDivLast cmd sub cb (n1 ++ n0) (t1 ++ t0) chunk cs ∧ flagsLast cb = true ∨
        i = .frameDivMore cmd sub cb (n1 ++ n0) (t1 ++ t0) chunk cs ∧ flagsMore cb = true) := by
  simp only [decodeDivided, Config.divOverhead_eq, Config.chunkMax_eq] at h
  split at h
  · cases h
  · split at h
    · split at h
      · next htail =>
        obtain ⟨hn, rfl⟩ := decodeTail_eq_ok htail
        split at h
        · next hlast =>
          cases h
          refine ⟨_, _, _, _, _, _, ?_, ?_, rfl, .inl ⟨rfl, hlast⟩⟩ <;> omega
        · split at h
          · next hmore =>
            cases h
            refine ⟨_, _, _, _, _, _, ?_, ?_, rfl, .inr ⟨rfl, hmore⟩⟩ <;> omega
          · cases h
      · cases h
    · cases h

/-! ### The shape after the marker -/

/-- After the marker come the header and EXTLEN, which selects the shape (30_encoding R105). -/
theorem decodeExtended_bytes {e2 e1 e0 : Byte} (hv : unbe [e2, e1, e0] = v) :
    decodeExtended mid (cmd :: sub :: cb :: e2 :: e1 :: e0 :: r) =
      if selectsDivided mid v then decodeDivided cmd sub cb v r else decodeUndivided cmd sub cb v r := by
  subst hv
  rfl

/-- The same with EXTLEN written by `be24`. -/
theorem decodeExtended_be24 (hv : v < 16777216) :
    decodeExtended mid (cmd :: sub :: cb :: (be24 v ++ r)) =
      if selectsDivided mid v then decodeDivided cmd sub cb v r else decodeUndivided cmd sub cb v r :=
  decodeExtended_bytes (unbe_be24 hv)

/-- A frame of an extended shape is cut short when its header or EXTLEN is. -/
theorem decodeExtended_short (h : r.length < 6) : decodeExtended mid r = .error .truncated := by
  unfold decodeExtended
  split
  · simp at h
    omega
  · rfl

/-- A part of an extended shape is cut short when what follows EXTLEN is. -/
theorem decodeExtended_take (hv : v < 16777216)
    (hshort : ∀ j < r.length, (if selectsDivided mid v then decodeDivided cmd sub cb v (r.take j)
      else decodeUndivided cmd sub cb v (r.take j)) = .error .truncated) {k : Nat}
    (hk : k < (cmd :: sub :: cb :: (be24 v ++ r)).length) :
    decodeExtended mid ((cmd :: sub :: cb :: (be24 v ++ r)).take k) = .error .truncated := by
  simp at hk
  by_cases h6 : k < 6
  · exact decodeExtended_short (by simp; omega)
  · obtain ⟨j, rfl⟩ : ∃ j, k = j + 6 := ⟨k - 6, by omega⟩
    have htake : (cmd :: sub :: cb :: (be24 v ++ r)).take (j + 6) = cmd :: sub :: cb :: (be24 v ++ r.take j) := rfl
    rw [htake, decodeExtended_be24 hv]
    exact hshort j (by omega)

/-! ### The first bytes of a frame -/

/-- A legal LEN byte selects the regular shape (30_encoding R105, R106). -/
theorem decodeFrame_regular {len : Byte} (hmin : 5 ≤ len.toNat) (hmax : len.toNat ≤ 253) :
    decodeFrame mid (Config.STX :: len :: r) = decodeRegular len r := by
  have hlen : len ≠ Config.EXT_LEN := by
    rintro rfl
    exact absurd hmax (by decide)
  simp only [decodeFrame, if_true, if_neg hlen, Config.regLenMin_eq, Config.regLenMax_eq, if_pos (And.intro hmin hmax)]

/-- The marker in the place of LEN selects an extended shape (30_encoding R105). -/
theorem decodeFrame_marker : decodeFrame mid (Config.STX :: Config.EXT_LEN :: r) = decodeExtended mid r := rfl

/-- LEN 0 to 4 or 255 is illegal (30_encoding R106). -/
theorem decodeFrame_illegalLen {len : Byte} (h : len.toNat ≤ 4 ∨ len.toNat = 255) :
    decodeFrame mid (Config.STX :: len :: r) = .error .illegalLen := by
  have hmarker : len ≠ Config.EXT_LEN := by
    rintro rfl
    exact absurd h (by decide)
  have hrange : ¬ (5 ≤ len.toNat ∧ len.toNat ≤ 253) := by omega
  simp only [decodeFrame, if_true, if_neg hmarker, Config.regLenMin_eq, Config.regLenMax_eq, if_neg hrange]

/-- A frame of which one byte or a part of what follows byte 1 is there is cut short. -/
theorem decodeFrame_take {len : Byte} {k : Nat} (h0 : 0 < k) (hk : k < (Config.STX :: len :: r).length)
    (hshort : ∀ j < r.length, decodeFrame mid (Config.STX :: len :: r.take j) = .error .truncated) :
    decodeFrame mid ((Config.STX :: len :: r).take k) = .error .truncated := by
  simp at hk
  obtain rfl | ⟨j, rfl⟩ : k = 1 ∨ ∃ j, k = j + 2 := by
    obtain h | h : k = 1 ∨ 2 ≤ k := by omega
    · exact .inl h
    · exact .inr ⟨k - 2, by omega⟩
  · rfl
  · exact hshort j (by omega)

/-- A frame that is read starts with STX, then has a legal LEN or the marker (30_encoding R105). -/
theorem decodeFrame_eq_ok {bs : Bytes} {i : Instr} (h : decodeFrame mid bs = .ok (i, rest)) :
    (∃ len r, bs = Config.STX :: len :: r ∧ 5 ≤ len.toNat ∧ len.toNat ≤ 253 ∧ decodeRegular len r = .ok (i, rest)) ∨
    (∃ r, bs = Config.STX :: Config.EXT_LEN :: r ∧ decodeExtended mid r = .ok (i, rest)) := by
  unfold decodeFrame at h
  split at h
  · cases h
  · split at h
    · next hstx =>
      subst hstx
      split at h
      · cases h
      · split at h
        · next hmarker => subst hmarker; exact .inr ⟨_, rfl, h⟩
        · split at h
          · next hlen =>
            rw [Config.regLenMin_eq, Config.regLenMax_eq] at hlen
            exact .inl ⟨_, _, rfl, hlen.1, hlen.2, h⟩
          · cases h
    · cases h

/-- A frame of an extended shape that is read has a header and EXTLEN, and is read in the shape they select. -/
theorem decodeExtended_eq_ok {bs : Bytes} {i : Instr} (h : decodeExtended mid bs = .ok (i, rest)) :
    ∃ cmd sub cb v r, bs = cmd :: sub :: cb :: (be24 v ++ r) ∧
      (selectsDivided mid v = true ∧ decodeDivided cmd sub cb v r = .ok (i, rest) ∨
        selectsDivided mid v = false ∧ decodeUndivided cmd sub cb v r = .ok (i, rest)) := by
  unfold decodeExtended at h
  split at h
  · next cmd sub cb e2 e1 e0 r =>
    refine ⟨cmd, sub, cb, unbe [e2, e1, e0], r, by rw [be24_unbe]; rfl, ?_⟩
    dsimp only at h
    split at h
    · next hsel => exact .inl ⟨hsel, h⟩
    · next hsel => exact .inr ⟨Bool.eq_false_iff.mpr hsel, h⟩
  · cases h

end Sys2Proof.Machine
end

section
/-! SUPPORT. The wire units: which bytes are a unit in a context and of which instruction. The decoder reads exactly these
(`wireUnit_iff_decode`), whatever follows them, and refuses every proper part of one as truncated; the encoder writes
exactly these (30_encoding R90 to R112). -/

namespace Sys2Proof.Machine

/-- In the context `ctx` the bytes are one wire unit, that of the instruction. A regular frame is one with and without
division history; an undivided frame only without it; a divided frame where its EXTLEN selects the divided shape
(30_encoding R105, R112). -/
inductive WireUnit : WireContext → Instr → Bytes → Prop
  | enq : WireUnit .answer .enq [Config.ENQ]
  | ack : WireUnit .answer .ack [Config.ACK]
  | nak : WireUnit .answer .nak [Config.NAK]
  | stx : WireUnit .delimiter .stx [Config.STX]
  | etx : WireUnit .delimiter .etx [Config.ETX]
  | extLen : WireUnit .delimiter .extLen [Config.EXT_LEN]
  | frameReg {mid : Bool} {cmd sub cb : Byte} {data : Bytes} {cs : Byte} (hd : data.length ≤ 248) :
      WireUnit (.frame mid) (.frameReg cmd sub cb data cs) (encodeReg cmd sub cb data cs)
  | frameExt {cmd sub cb : Byte} {data : Bytes} {cs : Byte} (hd : data.length ≤ 1027) :
      WireUnit (.frame false) (.frameExt cmd sub cb data cs) (encodeExt cmd sub cb data cs)
  | frameDivMore {mid : Bool} {cmd sub cb : Byte} {no cnt : BitVec 16} {chunk : Bytes} {cs : Byte}
      (hc : chunk.length ≤ 1024) (hsel : selectsDivided mid (chunk.length + 12) = true) (hmore : flagsMore cb = true) :
      WireUnit (.frame mid) (.frameDivMore cmd sub cb no cnt chunk cs) (encodeDiv cmd sub cb no cnt chunk cs)
  | frameDivLast {mid : Bool} {cmd sub cb : Byte} {no cnt : BitVec 16} {chunk : Bytes} {cs : Byte}
      (hc : chunk.length ≤ 1024) (hsel : selectsDivided mid (chunk.length + 12) = true) (hlast : flagsLast cb = true) :
      WireUnit (.frame mid) (.frameDivLast cmd sub cb no cnt chunk cs) (encodeDiv cmd sub cb no cnt chunk cs)

/-! ### The bytes of a frame, first bytes first -/

variable {cmd sub cb e cs : Byte} {data chunk rest : Bytes} {mid : Bool}

/-- A regular frame as the decoder meets it. -/
theorem encodeReg_eq : encodeReg cmd sub cb data cs =
    Config.STX :: BitVec.ofNat 8 (data.length + 5) :: cmd :: sub :: cb :: (data ++ [Config.ETX, cs]) := rfl

/-- An undivided extended frame as the decoder meets it. -/
theorem encodeExt_eq : encodeExt cmd sub cb data cs =
    Config.STX :: Config.EXT_LEN :: cmd :: sub :: cb :: (be24 (data.length + 5) ++ (data ++ [Config.ETX, cs])) := rfl

/-- A divided frame as the decoder meets it. -/
theorem encodeDiv_eq {no cnt : BitVec 16} : encodeDiv cmd sub cb no cnt chunk cs =
    Config.STX :: Config.EXT_LEN :: cmd :: sub :: cb ::
      (be24 (chunk.length + 12) ++ (be16 no.toNat ++ (be16 cnt.toNat ++ (chunk ++ [Config.ETX, cs])))) := rfl

/-- The LEN byte of at most 248 data bytes does not wrap. -/
theorem lenByte_toNat (hd : data.length ≤ 248) : (BitVec.ofNat 8 (data.length + 5)).toNat = data.length + 5 := by
  rw [BitVec.toNat_ofNat]
  omega

/-! ### Frames whose end is right or wrong -/

/-- A regular frame with any byte in the place of ETX (30_encoding R98, R110). -/
theorem decodeFrame_reg (hd : data.length ≤ 248) :
    decodeFrame mid (Config.STX :: BitVec.ofNat 8 (data.length + 5) :: cmd :: sub :: cb :: (data ++ e :: cs :: rest)) =
      if e = Config.ETX then .ok (.frameReg cmd sub cb data cs, rest) else .error .noEtx := by
  have hlen := lenByte_toNat hd
  rw [decodeFrame_regular (by omega) (by omega), decodeRegular_append hlen]

/-- An undivided extended frame with any byte in the place of ETX (30_encoding R100, R110). -/
theorem decodeFrame_ext (hd : data.length ≤ 1027) :
    decodeFrame false (Config.STX :: Config.EXT_LEN :: cmd :: sub :: cb ::
        (be24 (data.length + 5) ++ (data ++ e :: cs :: rest))) =
      if e = Config.ETX then .ok (.frameExt cmd sub cb data cs, rest) else .error .noEtx := by
  have hsel : selectsDivided false (data.length + 5) = false := by simp [selectsDivided]; omega
  rw [decodeFrame_marker, decodeExtended_be24 (by omega), hsel, if_neg Bool.false_ne_true, decodeUndivided_append]

/-- A divided frame with any byte in the place of ETX and any division flags (30_encoding R102, R107, R110). -/
theorem decodeFrame_div {n1 n0 t1 t0 : Byte} (hc : chunk.length ≤ 1024)
    (hsel : selectsDivided mid (chunk.length + 12) = true) :
    decodeFrame mid (Config.STX :: Config.EXT_LEN :: cmd :: sub :: cb ::
        (be24 (chunk.length + 12) ++ n1 :: n0 :: t1 :: t0 :: (chunk ++ e :: cs :: rest))) =
      if e = Config.ETX then
        if flagsLast cb then .ok (.frameDivLast cmd sub cb (n1 ++ n0) (t1 ++ t0) chunk cs, rest)
        else if flagsMore cb then .ok (.frameDivMore cmd sub cb (n1 ++ n0) (t1 ++ t0) chunk cs, rest)
        else .error .divisionFlags
      else .error .noEtx := by
  rw [decodeFrame_marker, decodeExtended_be24 (by omega), hsel, if_pos rfl, decodeDivided_append hc]

/-- A whole divided frame, with its numbers as 16-bit values. -/
theorem decodeFrame_encodeDiv {no cnt : BitVec 16} (hc : chunk.length ≤ 1024)
    (hsel : selectsDivided mid (chunk.length + 12) = true) :
    decodeFrame mid (encodeDiv cmd sub cb no cnt chunk cs ++ rest) =
      if flagsLast cb then .ok (.frameDivLast cmd sub cb no cnt chunk cs, rest)
      else if flagsMore cb then .ok (.frameDivMore cmd sub cb no cnt chunk cs, rest)
      else .error .divisionFlags := by
  have hbytes : encodeDiv cmd sub cb no cnt chunk cs ++ rest =
      Config.STX :: Config.EXT_LEN :: cmd :: sub :: cb :: (be24 (chunk.length + 12) ++
        BitVec.ofNat 8 (no.toNat / 256) :: BitVec.ofNat 8 no.toNat ::
        BitVec.ofNat 8 (cnt.toNat / 256) :: BitVec.ofNat 8 cnt.toNat :: (chunk ++ Config.ETX :: cs :: rest)) := by
    simp [encodeDiv_eq, be16]
  rw [hbytes, decodeFrame_div hc hsel, if_pos rfl, append_of_be16, append_of_be16]

/-! ### What the decoder does with a unit -/

variable {ctx : WireContext} {i : Instr} {u : Bytes}

/-- The decoder reads a unit, whatever follows it. -/
theorem WireUnit.decodeUnit_append (h : WireUnit ctx i u) (rest : Bytes) : decodeUnit ctx (u ++ rest) = .ok (i, rest) := by
  cases h with
  | enq | ack | nak | stx | etx | extLen => rfl
  | frameReg hd =>
    rw [encodeReg_eq]
    simp only [List.cons_append, List.append_assoc, List.nil_append, decodeUnit, decodeFrame_reg hd, if_true]
  | frameExt hd =>
    rw [encodeExt_eq]
    simp only [List.cons_append, List.append_assoc, List.nil_append, decodeUnit, decodeFrame_ext hd, if_true]
  | frameDivMore hc hsel hmore =>
    exact (decodeFrame_encodeDiv hc hsel).trans (by rw [flagsLast_of_more hmore, hmore]; rfl)
  | frameDivLast hc hsel hlast =>
    exact (decodeFrame_encodeDiv hc hsel).trans (by rw [hlast]; rfl)

/-- What the decoder reads first is a unit, and the rest follows it. -/
theorem decodeUnit_eq_ok {bs : Bytes} (h : decodeUnit ctx bs = .ok (i, rest)) : ∃ u, WireUnit ctx i u ∧ bs = u ++ rest := by
  cases ctx with
  | answer =>
    simp only [decodeUnit, decodeAnswer] at h
    split at h
    · cases h
    · split at h
      · next hb => cases h; exact ⟨_, .enq, by rw [hb]; rfl⟩
      · split at h
        · next hb => cases h; exact ⟨_, .ack, by rw [hb]; rfl⟩
        · split at h
          · next hb => cases h; exact ⟨_, .nak, by rw [hb]; rfl⟩
          · cases h
  | delimiter =>
    simp only [decodeUnit, decodeDelimiter] at h
    split at h
    · cases h
    · split at h
      · next hb => cases h; exact ⟨_, .stx, by rw [hb]; rfl⟩
      · split at h
        · next hb => cases h; exact ⟨_, .etx, by rw [hb]; rfl⟩
        · split at h
          · next hb => cases h; exact ⟨_, .extLen, by rw [hb]; rfl⟩
          · cases h
  | frame mid =>
    obtain ⟨len, r, rfl, hmin, hmax, hreg⟩ | ⟨r, rfl, hext⟩ := decodeFrame_eq_ok h
    · obtain ⟨cmd, sub, cb, data, cs, rfl, hlen, rfl⟩ := decodeRegular_eq_ok hmin hreg
      refine ⟨_, .frameReg (by omega), ?_⟩
      rw [encodeReg_eq, hlen, BitVec.ofNat_toNat, BitVec.setWidth_eq]
      simp
    · obtain ⟨cmd, sub, cb, v, r, rfl, ⟨hsel, hdiv⟩ | ⟨hsel, hund⟩⟩ := decodeExtended_eq_ok hext
      · obtain ⟨n1, n0, t1, t0, chunk, cs, rfl, hc, rfl, hkind⟩ := decodeDivided_eq_ok hdiv
        have hbytes : Config.STX :: Config.EXT_LEN :: cmd :: sub :: cb :: (be24 (chunk.length + 12) ++
            n1 :: n0 :: t1 :: t0 :: (chunk ++ Config.ETX :: cs :: rest)) =
            encodeDiv cmd sub cb (n1 ++ n0) (t1 ++ t0) chunk cs ++ rest := by
          rw [encodeDiv_eq, be16_append, be16_append]
          simp
        obtain ⟨rfl, hlast⟩ | ⟨rfl, hmore⟩ := hkind
        · exact ⟨_, .frameDivLast hc hsel hlast, hbytes⟩
        · exact ⟨_, .frameDivMore hc hsel hmore, hbytes⟩
      · obtain ⟨data, cs, rfl, rfl, rfl⟩ := decodeUndivided_eq_ok hund
        obtain ⟨rfl, hle⟩ : mid = false ∧ data.length + 5 ≤ 1032 := by simpa [selectsDivided] using hsel
        refine ⟨_, .frameExt (by omega), ?_⟩
        rw [encodeExt_eq]
        simp

/-- A proper part of a divided frame is cut short. -/
theorem decodeFrame_take_div {no cnt : BitVec 16} {k : Nat} (hc : chunk.length ≤ 1024)
    (hsel : selectsDivided mid (chunk.length + 12) = true) (h0 : 0 < k)
    (hk : k < (encodeDiv cmd sub cb no cnt chunk cs).length) :
    decodeFrame mid ((encodeDiv cmd sub cb no cnt chunk cs).take k) = .error .truncated := by
  rw [encodeDiv_eq] at hk ⊢
  refine decodeFrame_take h0 hk fun j hj => ?_
  rw [decodeFrame_marker]
  refine decodeExtended_take (by omega) (fun l hl => ?_) hj
  rw [hsel, if_pos rfl]
  simp at hl
  exact decodeDivided_truncated (by omega) (by omega) (by simp; omega)

/-- A proper part of a unit is refused as cut short, by its name. -/
theorem WireUnit.decodeUnit_take (h : WireUnit ctx i u) {k : Nat} (h0 : 0 < k) (hk : k < u.length) :
    decodeUnit ctx (u.take k) = .error .truncated := by
  cases h with
  | enq | ack | nak | stx | etx | extLen =>
    simp at hk
    omega
  | frameReg hd =>
    have hlen := lenByte_toNat hd
    rw [encodeReg_eq] at hk ⊢
    refine decodeFrame_take h0 hk fun j hj => ?_
    rw [decodeFrame_regular (by omega) (by omega)]
    simp at hj
    exact decodeRegular_truncated (by omega) (by simp [hlen]; omega)
  | @frameExt _ _ _ data _ hd =>
    have hsel : selectsDivided false (data.length + 5) = false := by simp [selectsDivided]; omega
    rw [encodeExt_eq] at hk ⊢
    refine decodeFrame_take h0 hk fun j hj => ?_
    rw [decodeFrame_marker]
    refine decodeExtended_take (by omega) (fun l hl => ?_) hj
    rw [hsel, if_neg Bool.false_ne_true]
    simp at hl
    exact decodeUndivided_truncated (by omega) (by simp; omega)
  | frameDivMore hc hsel _ => exact decodeFrame_take_div hc hsel h0 hk
  | frameDivLast hc hsel _ => exact decodeFrame_take_div hc hsel h0 hk

/-! ### The decoder on the bytes of a unit -/

/-- Bytes that are one unit are its instruction. -/
theorem decode_of_ok {bs : Bytes} (h : decodeUnit ctx bs = .ok (i, [])) : decode (.wire ctx bs) = .ok i := by
  simp only [decode, h]

/-- Bytes left over after a unit are refused (log 5). -/
theorem decode_of_trailing {bs : Bytes} {b : Byte} (h : decodeUnit ctx bs = .ok (i, b :: rest)) :
    decode (.wire ctx bs) = .error .trailingBytes := by
  simp only [decode, h]

/-- Bytes that start no unit are refused under the name the unit's decoder gives. -/
theorem decode_of_error {bs : Bytes} {err : DecodeError} (h : decodeUnit ctx bs = .error err) :
    decode (.wire ctx bs) = .error err := by
  simp only [decode, h]

/-- The bytes of a unit decode to its instruction. -/
theorem WireUnit.decodes (h : WireUnit ctx i u) : decode (.wire ctx u) = .ok i :=
  decode_of_ok (by simpa using h.decodeUnit_append [])

/-- The wire units are exactly what the decoder takes for an instruction. -/
theorem wireUnit_iff_decode : WireUnit ctx i u ↔ decode (.wire ctx u) = .ok i := by
  refine ⟨WireUnit.decodes, fun h => ?_⟩
  simp only [decode] at h
  split at h
  · next hd =>
    cases h
    obtain ⟨u', hu, rfl⟩ := decodeUnit_eq_ok hd
    simpa using hu
  · cases h
  · cases h

/-! ### What the encoder writes -/

/-- The encoder writes the unit of a well-formed wire instruction. -/
theorem wireUnit_of_encode (hw : i.wellFormed = true) (he : encode i = .wire ctx u) : WireUnit ctx i u := by
  cases i with
  | enq => cases he; exact .enq
  | ack => cases he; exact .ack
  | nak => cases he; exact .nak
  | stx => cases he; exact .stx
  | etx => cases he; exact .etx
  | extLen => cases he; exact .extLen
  | frameReg =>
    cases he
    simp [Instr.wellFormed] at hw
    exact .frameReg (by omega)
  | frameExt =>
    cases he
    simp [Instr.wellFormed] at hw
    exact .frameExt (by omega)
  | frameDivMore =>
    cases he
    simp [Instr.wellFormed] at hw
    exact .frameDivMore hw.1 rfl hw.2
  | frameDivLast =>
    cases he
    simp [Instr.wellFormed] at hw
    exact .frameDivLast hw.1 rfl hw.2
  | _ => cases he

/-- The instruction of a unit is well formed. -/
theorem WireUnit.wellFormed (h : WireUnit ctx i u) : i.wellFormed = true := by
  cases h with
  | enq | ack | nak | stx | etx | extLen => rfl
  | frameReg hd => simp [Instr.wellFormed]; omega
  | frameExt hd => simp [Instr.wellFormed]; omega
  | frameDivMore hc _ hmore => simp [Instr.wellFormed, hc, hmore]
  | frameDivLast hc _ hlast => simp [Instr.wellFormed, hc, hlast]

/-- The instruction of a unit is encoded by the bytes of the unit. -/
theorem WireUnit.encodes (h : WireUnit ctx i u) : ∃ ctx', encode i = .wire ctx' u := by
  cases h <;> exact ⟨_, rfl⟩

/-- An instruction that is no wire unit is an ordinal or a request, which the decoder takes back (10_state R25). -/
theorem decode_encode_of_not_wire (h : ∀ ctx u, encode i ≠ .wire ctx u) :
    decode (encode i) = .ok i := by
  cases i with
  | enq | ack | nak | stx | etx | extLen | frameReg | frameExt | frameDivMore | frameDivLast => exact absurd rfl (h _ _)
  | _ => rfl

/-- A wire instruction is the arrival of the bytes it is encoded by (log 4). -/
theorem exec_of_encode (h : encode i = .wire ctx u) (s : State) : exec i s = .next (arrive u s) := by
  cases i with
  | enq | ack | nak | stx | etx | extLen | frameReg | frameExt | frameDivMore | frameDivLast => cases h; rfl
  | _ => cases h

end Sys2Proof.Machine
end

section
/-! SUPPORT. The statements about the encoding: round trips, words written out, refusals, and the arrival of a unit
(30_encoding R90 to R112). -/

namespace Sys2Proof.Machine

/-! ### Round trips -/

/-- Settles O1: the encoding of a wire instruction is one of the wire units, which the decoder reads; any other encoding
is an ordinal or a request. -/
theorem decodeOfEncode : Obligations.DecodeOfEncode := by
  unfold Obligations.DecodeOfEncode
  intro i hw
  by_cases hwire : ∃ ctx u, encode i = .wire ctx u
  · obtain ⟨ctx, u, he⟩ := hwire
    rw [he]
    exact (wireUnit_of_encode hw he).decodes
  · exact decode_encode_of_not_wire fun ctx u he => hwire ⟨ctx, u, he⟩

/-- Settles O2: bytes that decode are a wire unit, which the encoder writes. -/
theorem encodeOfDecodedUnit : Obligations.EncodeOfDecodedUnit := by
  unfold Obligations.EncodeOfDecodedUnit
  intro ctx bs i h
  have hunit := wireUnit_iff_decode.mpr h
  exact ⟨hunit.wellFormed, hunit.encodes⟩

/-- Settles O3: each word is evaluated; the checksum byte is free. -/
theorem writtenOutWordsDecode : Obligations.WrittenOutWordsDecode := by
  unfold Obligations.WrittenOutWordsDecode
  exact ⟨rfl, rfl, rfl, rfl, fun _ => rfl, fun _ => rfl, fun _ => rfl, fun _ => rfl, rfl, rfl, rfl⟩

/-! ### Refusals -/

variable {cmd sub cb n1 n0 t1 t0 e e2 e1 e0 cs b : Byte} {data chunk r : Bytes} {mid : Bool} {ctx : WireContext}

/-- An EXTLEN below the overhead of an undivided frame, without history (30_encoding R109). -/
theorem decode_extLen_below_undivided (h : e2.toNat * 65536 + e1.toNat * 256 + e0.toNat < 5) :
    decode (.wire (.frame false) ([0x02, 0xFE, cmd, sub, cb, e2, e1, e0] ++ r)) = .error .illegalExtLen := by
  rw [← unbe_three] at h
  have hsel : selectsDivided false (unbe [e2, e1, e0]) = false := by simp [selectsDivided]; omega
  refine decode_of_error ((decodeExtended_bytes rfl).trans ?_)
  rw [hsel, if_neg Bool.false_ne_true, decodeUndivided_illegal h]

/-- An EXTLEN outside the range of a divided frame, where the divided shape is selected (30_encoding R109). -/
theorem decode_extLen_outside_divided (hsel : selectsDivided mid (unbe [e2, e1, e0]) = true)
    (h : unbe [e2, e1, e0] < 12 ∨ 1036 < unbe [e2, e1, e0]) :
    decode (.wire (.frame mid) ([0x02, 0xFE, cmd, sub, cb, e2, e1, e0] ++ r)) = .error .illegalExtLen := by
  refine decode_of_error ((decodeExtended_bytes rfl).trans ?_)
  rw [hsel, if_pos rfl, decodeDivided_illegal h]

/-- A byte that is no control byte, where an answer is looked for (30_encoding R112). -/
theorem decodeAnswer_other (henq : b ≠ Config.ENQ) (hack : b ≠ Config.ACK) (hnak : b ≠ Config.NAK) :
    decodeAnswer (b :: r) = .error .notAControlByte := by
  simp only [decodeAnswer, if_neg henq, if_neg hack, if_neg hnak]

/-- A byte that is no delimiter, at a delimiter position (30_encoding R94). -/
theorem decodeDelimiter_other (hstx : b ≠ Config.STX) (hetx : b ≠ Config.ETX) (hext : b ≠ Config.EXT_LEN) :
    decodeDelimiter (b :: r) = .error .notADelimiter := by
  simp only [decodeDelimiter, if_neg hstx, if_neg hetx, if_neg hext]

/-- A byte that is no STX, where a frame is looked for (30_encoding R112). -/
theorem decodeFrame_noStx (h : b ≠ Config.STX) : decodeFrame mid (b :: r) = .error .noStx := by
  simp only [decodeFrame, if_neg h]

/-- A regular frame with another byte in the place of ETX (30_encoding R110). -/
theorem decodeFrame_reg_noEtx (he : e ≠ 0x03) (hd : data.length ≤ 248) :
    decodeFrame mid ([0x02, BitVec.ofNat 8 (data.length + 5), cmd, sub, cb] ++ data ++ e :: cs :: r) =
      .error .noEtx :=
  (congrArg (decodeFrame mid) (List.append_assoc _ data _)).trans ((decodeFrame_reg hd).trans (if_neg he))

/-- An undivided extended frame with another byte in the place of ETX (30_encoding R110). -/
theorem decodeFrame_ext_noEtx (he : e ≠ 0x03) (hd : data.length ≤ 1027) :
    decodeFrame false ([0x02, 0xFE, cmd, sub, cb] ++ be24 (data.length + 5) ++ data ++ e :: cs :: r) =
      .error .noEtx :=
  (congrArg (decodeFrame false) (List.append_assoc _ data _)).trans ((decodeFrame_ext hd).trans (if_neg he))

/-- What a divided frame with history is: its end and its flags decide (30_encoding R102, R107, R110). -/
theorem decodeFrame_div_history (hc : chunk.length ≤ 1024) :
    decodeFrame true ([0x02, 0xFE, cmd, sub, cb] ++ be24 (chunk.length + 12) ++ [n1, n0, t1, t0] ++ chunk ++
        e :: cs :: r) =
      if e = Config.ETX then
        if flagsLast cb then .ok (.frameDivLast cmd sub cb (n1 ++ n0) (t1 ++ t0) chunk cs, r)
        else if flagsMore cb then .ok (.frameDivMore cmd sub cb (n1 ++ n0) (t1 ++ t0) chunk cs, r)
        else .error .divisionFlags
      else .error .noEtx :=
  (congrArg (decodeFrame true) (List.append_assoc _ chunk _)).trans (decodeFrame_div hc rfl)

/-- Division flags 00 and 01 say neither more nor last (30_encoding R107). -/
theorem flags_neither (h : cb.toNat % 4 < 2) : flagsLast cb = false ∧ flagsMore cb = false := by
  rw [Bool.eq_false_iff, Bool.eq_false_iff, Ne, Ne, flagsLast_iff, flagsMore_iff]
  omega

/-- Where there is no byte there is no unit. -/
theorem decodeUnit_nil (ctx : WireContext) : decodeUnit ctx [] = .error .emptyUnit := by
  cases ctx <;> rfl

/-- An ordinal above the last send state names none (10_state R25). -/
theorem sendStateOf_unused {w : BitVec 4} (h : 12 ≤ w.toNat) : sendStateOf w = none := by
  have key : ∀ w : BitVec 4, 12 ≤ w.toNat → sendStateOf w = none := by decide
  exact key w h

/-- An ordinal above the last receive state names none (10_state R25). -/
theorem recvStateOf_unused {w : BitVec 5} (h : 19 ≤ w.toNat) : recvStateOf w = none := by
  have key : ∀ w : BitVec 5, 19 ≤ w.toNat → recvStateOf w = none := by decide
  exact key w h

/-- Settles O4: one refusal after the other, in the order of the statement. -/
theorem illegalEncodingsAreRefused : Obligations.IllegalEncodingsAreRefused := by
  unfold Obligations.IllegalEncodingsAreRefused
  refine ⟨?illegalLen, fun _ _ _ _ _ _ _ h => decode_extLen_below_undivided h, ?belowDivided, ?aboveDivided,
    fun _ _ h1 h2 h3 => decode_of_error (decodeAnswer_other h1 h2 h3),
    fun _ _ h1 h2 h3 => decode_of_error (decodeDelimiter_other h1 h2 h3),
    fun _ _ _ h => decode_of_error (decodeFrame_noStx h),
    fun _ _ _ _ _ _ _ _ he hd => decode_of_error (decodeFrame_reg_noEtx he hd),
    fun _ _ _ _ _ _ _ he hd => decode_of_error (decodeFrame_ext_noEtx he hd),
    fun _ _ _ _ _ _ _ _ _ _ _ he hc => decode_of_error ((decodeFrame_div_history hc).trans (if_neg he)),
    ?divisionFlags, fun ctx => decode_of_error (decodeUnit_nil ctx), ?truncated, ?trailing, ?sendOrdinal, ?recvOrdinal⟩
  case illegalLen =>
    intro mid b r h
    have hlen : b.toNat ≤ 4 ∨ b.toNat = 255 := h.imp_right (congrArg BitVec.toNat)
    exact decode_of_error (decodeFrame_illegalLen hlen)
  case belowDivided =>
    intro cmd sub cb e2 e1 e0 r h
    rw [← unbe_three] at h
    exact decode_extLen_outside_divided rfl (.inl h)
  case aboveDivided =>
    intro mid cmd sub cb e2 e1 e0 r h
    rw [← unbe_three] at h
    have hsel : selectsDivided mid (unbe [e2, e1, e0]) = true := by simp [selectsDivided]; omega
    exact decode_extLen_outside_divided hsel (.inr h)
  case divisionFlags =>
    intro cmd sub cb n1 n0 t1 t0 cs chunk r hcb hc
    obtain ⟨hlast, hmore⟩ := flags_neither hcb
    refine decode_of_error ((decodeFrame_div_history hc).trans ?_)
    rw [hlast, hmore]
    rfl
  case truncated =>
    intro ctx bs i k h h0 hk
    exact decode_of_error ((wireUnit_iff_decode.mpr h).decodeUnit_take h0 hk)
  case trailing =>
    intro ctx bs i b r h
    exact decode_of_trailing ((wireUnit_iff_decode.mpr h).decodeUnit_append (b :: r))
  case sendOrdinal =>
    intro w h
    simp only [decode, sendStateOf_unused h]
  case recvOrdinal =>
    intro w h
    simp only [decode, recvStateOf_unused h]

/-! ### Arrival -/

/-- Settles O9: a wire instruction is the arrival of the bytes it is encoded by. -/
theorem wireUnitJoinsTheInputStream : Obligations.WireUnitJoinsTheInputStream := by
  unfold Obligations.WireUnitJoinsTheInputStream
  exact ⟨exec_of_encode rfl, exec_of_encode rfl, exec_of_encode rfl, exec_of_encode rfl, exec_of_encode rfl,
    exec_of_encode rfl, fun s _ _ _ _ _ => exec_of_encode rfl s, fun s _ _ _ _ _ => exec_of_encode rfl s,
    fun s _ _ _ _ _ _ _ => exec_of_encode rfl s, fun s _ _ _ _ _ _ _ => exec_of_encode rfl s⟩

end Sys2Proof.Machine
end

section
/-! SUPPORT. The frames that the codec builds are wire units (40_frame_codec R130 to R136, 30_encoding R98 to R104). -/

namespace Sys2Proof.Machine

/-! ### The frames of a payload, by its size -/

variable {p : Bytes} {fs : List Frame}

/-- Up to `REG_MAX` bytes: one regular frame (40_frame_codec R130, R132). -/
theorem buildFrames_regular (h : p.length ≤ 251) : buildFrames p = some [regularFrame p] := by
  simp only [buildFrames, buildRegular, Config.regMax_eq, if_pos h]

/-- From there to `EXT_MAX` bytes: one extended frame (40_frame_codec R130, R134). -/
theorem buildFrames_extended (hmin : 251 < p.length) (hmax : p.length ≤ 1030) :
    buildFrames p = some [extendedFrame p] := by
  simp only [buildFrames, buildExtended, Config.regMax_eq, Config.extMax_eq, if_neg (Nat.not_le.mpr hmin), if_pos hmax,
    if_pos (And.intro hmin hmax)]

/-- Above `EXT_MAX` bytes: divided frames, if there are any (40_frame_codec R130, R133, R135). -/
theorem buildFrames_divided (hmin : 1030 < p.length) (h : buildFrames p = some fs) : fs = dividedFrames p := by
  have hreg : ¬ p.length ≤ 251 := by omega
  simp only [buildFrames, buildDivided, Config.regMax_eq, Config.extMax_eq, if_neg hreg,
    if_neg (Nat.not_le.mpr hmin)] at h
  split at h
  · exact (Option.some.inj h).symm
  · cases h

/-! ### Their lengths -/

/-- A regular frame has four bytes around its payload (40_frame_codec R132). -/
@[simp] theorem regularFrame_length (p : Bytes) : (regularFrame p).length = p.length + 4 := by
  simp [regularFrame]

/-- An extended frame has seven bytes besides its payload (40_frame_codec R134). -/
theorem extendedFrame_length (h : 3 ≤ p.length) : (extendedFrame p).length = p.length + 7 := by
  simp [extendedFrame]
  omega

/-- A divided frame has fourteen bytes besides its chunk (40_frame_codec R136). -/
theorem dividedFrame_length {header : Bytes} (hh : header.length = 3) (data : Bytes) (n i : Nat) :
    (dividedFrame header data n i).length = (chunk data i).length + 14 := by
  simp [dividedFrame, hh]
  omega

/-- Every chunk but the last is full, and the last one holds what is left (40_frame_codec R135). -/
theorem chunk_length (data : Bytes) (i : Nat) : (chunk data i).length = min 1024 (data.length - 1024 * i) := by
  simp [chunk]

/-- No chunk that is counted is empty (40_frame_codec R135). -/
theorem chunk_length_pos {data : Bytes} {i : Nat} (h : i < frameCount data.length) : 0 < (chunk data i).length := by
  simp only [frameCount, Config.chunkMax_eq] at h
  rw [chunk_length]
  omega

/-- A divided frame of a message that is made has a chunk of 1 to 1024 bytes. -/
theorem dividedFrames_mem_length {f : Frame} (hp : 3 ≤ p.length) (hf : f ∈ dividedFrames p) :
    15 ≤ f.length ∧ f.length ≤ 1038 := by
  obtain ⟨i, hi, rfl⟩ := List.mem_map.mp hf
  have hheader : (p.take Config.hdr).length = 3 := by simp; omega
  have hpos := chunk_length_pos (List.mem_range.mp hi)
  have hmax := chunk_length_le (p.drop Config.hdr) i
  rw [dividedFrame_length hheader]
  omega

/-- Settles O39: the length of the frame of each shape, by the size of the payload. -/
theorem builtFrameLengths : Obligations.BuiltFrameLengths := by
  unfold Obligations.BuiltFrameLengths
  intro p fs f hmin hbuilt hf
  refine ⟨fun hreg => ?_, fun hlow hext => ?_, fun hdiv => ?_⟩
  · cases (buildFrames_regular hreg).symm.trans hbuilt
    rw [List.mem_singleton.mp hf, regularFrame_length]
    omega
  · cases (buildFrames_extended hlow hext).symm.trans hbuilt
    rw [List.mem_singleton.mp hf, extendedFrame_length hmin]
    omega
  · cases buildFrames_divided hdiv hbuilt
    exact dividedFrames_mem_length hmin hf

/-! ### Their bytes are those of the encoder -/

variable {cmd sub cb : Byte} {data : Bytes}

/-- The regular frame of a payload with a header is what the encoder writes (30_encoding R98). -/
theorem regularFrame_eq_encodeReg (cmd sub cb : Byte) (data : Bytes) :
    ∃ cs, regularFrame ([cmd, sub, cb] ++ data) = encodeReg cmd sub cb data cs :=
  ⟨_, by simp [regularFrame, sealFrame, encodeReg_eq]; rfl⟩

/-- The extended frame of a payload with a header is what the encoder writes (30_encoding R100). -/
theorem extendedFrame_eq_encodeExt (cmd sub cb : Byte) (data : Bytes) :
    ∃ cs, extendedFrame ([cmd, sub, cb] ++ data) = encodeExt cmd sub cb data cs :=
  ⟨_, by simp [extendedFrame, sealFrame, encodeExt_eq]; rfl⟩

/-- A divided frame is what the encoder writes, with the flags OR-ed into the codebit (30_encoding R102). -/
theorem dividedFrame_eq_encodeDiv (cmd sub cb : Byte) (data : Bytes) (n i : Nat) : ∃ cs, dividedFrame [cmd, sub, cb] data n i =
    encodeDiv cmd sub (cb ||| if i + 1 = n then 0x03 else 0x02) (BitVec.ofNat 16 i) (BitVec.ofNat 16 n)
      (chunk data i) cs :=
  ⟨_, by rw [encodeDiv_eq, be16_ofNat, be16_ofNat]; simp [dividedFrame, sealFrame, flagHeader]; rfl⟩

/-! ### The decoder reads them -/

/-- Frame `k` of a divided message (40_frame_codec R135, R136). -/
theorem dividedFrames_getElem? {k : Nat} {f : Frame} (h : (dividedFrames ([cmd, sub, cb] ++ data))[k]? = some f) :
    f = dividedFrame [cmd, sub, cb] data (dividedFrames ([cmd, sub, cb] ++ data)).length k := by
  have hlen : (dividedFrames ([cmd, sub, cb] ++ data)).length = frameCount data.length := by simp [dividedFrames]
  rw [hlen]
  simp only [dividedFrames, Config.hdr_eq, List.getElem?_map, Option.map_eq_some_iff] at h
  obtain ⟨i, hi, rfl⟩ := h
  obtain ⟨-, rfl⟩ := List.getElem?_eq_some_iff.mp hi
  simp

/-- The first frame of a division has a full chunk, whose EXTLEN selects the divided shape without any history
(30_encoding R105). -/
theorem selectsDivided_chunk (hd : 1027 < data.length) (k : Nat) :
    selectsDivided (decide (0 < k)) ((chunk data k).length + 12) = true := by
  simp only [selectsDivided, chunk_length, Config.divThreshold_eq, Bool.or_eq_true, decide_eq_true_eq]
  obtain rfl | hk := Nat.eq_zero_or_pos k
  · omega
  · exact .inl hk

/-- A divided frame is the unit of the last frame when the flags in its codebit say so. -/
theorem decode_divLast {cb' : Byte} {no cnt : BitVec 16} {k : Nat} (hd : 1027 < data.length)
    (hlast : flagsLast cb' = true) (cs : Byte) :
    decode (.wire (.frame (decide (0 < k))) (encodeDiv cmd sub cb' no cnt (chunk data k) cs)) =
      .ok (.frameDivLast cmd sub cb' no cnt (chunk data k) cs) :=
  (WireUnit.frameDivLast (chunk_length_le data k) (selectsDivided_chunk hd k) hlast).decodes

/-- A divided frame is the unit of a frame that more follow when the flags in its codebit say so. -/
theorem decode_divMore {cb' : Byte} {no cnt : BitVec 16} {k : Nat} (hd : 1027 < data.length)
    (hmore : flagsMore cb' = true) (cs : Byte) :
    decode (.wire (.frame (decide (0 < k))) (encodeDiv cmd sub cb' no cnt (chunk data k) cs)) =
      .ok (.frameDivMore cmd sub cb' no cnt (chunk data k) cs) :=
  (WireUnit.frameDivMore (chunk_length_le data k) (selectsDivided_chunk hd k) hmore).decodes

/-- Settles O40: the frame of each shape is the encoder's, hence a wire unit; a divided one is more or last as the flags
in its codebit say. -/
theorem builtFramesDecode : Obligations.BuiltFramesDecode := by
  unfold Obligations.BuiltFramesDecode
  intro cmd sub cb data fs hbuilt k f hf
  have hsize : ([cmd, sub, cb] ++ data).length = data.length + 3 := rfl
  obtain hreg | ⟨hlow, hext⟩ | hdiv : data.length ≤ 248 ∨ (248 < data.length ∧ data.length ≤ 1027) ∨
      1027 < data.length := by omega
  · cases (buildFrames_regular (by omega)).symm.trans hbuilt
    obtain ⟨cs, hframe⟩ := regularFrame_eq_encodeReg cmd sub cb data
    rw [List.mem_singleton.mp (List.mem_of_getElem? hf), hframe]
    exact ⟨cs, fun _ => (WireUnit.frameReg hreg).decodes, by omega, by omega⟩
  · cases (buildFrames_extended (by omega) (by omega)).symm.trans hbuilt
    obtain ⟨cs, hframe⟩ := extendedFrame_eq_encodeExt cmd sub cb data
    rw [List.mem_singleton.mp (List.mem_of_getElem? hf), hframe]
    exact ⟨cs, by omega, fun _ _ => (WireUnit.frameExt hext).decodes, by omega⟩
  · cases buildFrames_divided (by omega) hbuilt
    obtain ⟨cs, hframe⟩ := dividedFrame_eq_encodeDiv cmd sub cb data
      (dividedFrames ([cmd, sub, cb] ++ data)).length k
    rw [dividedFrames_getElem? hf, hframe]
    refine ⟨cs, by omega, by omega, fun _ => ⟨fun hk => ?_, fun hk hbit => ?_, fun hk hbit => ?_⟩⟩
    · rw [if_pos hk]
      exact decode_divLast hdiv (flagsLast_or_last cb) cs
    · rw [if_neg hk]
      exact decode_divMore hdiv ((flagsMore_iff _).mpr (by rw [flags_or_more, hbit])) cs
    · rw [if_neg hk]
      exact decode_divLast hdiv ((flagsLast_iff _).mpr (by rw [flags_or_more, hbit])) cs

end Sys2Proof.Machine
end

section
/-! SUPPORT. The frames of each shape and the build operations asked by themselves (40_frame_codec R130 to R138). -/

namespace Sys2Proof.Machine

variable {p : Bytes} {fs : List Frame} {cmd sub cb : Byte} {data : Bytes}

/-! ### The build operations, by the size of the payload -/

/-- `buildRegular` inside its sizes (40_frame_codec R132). -/
theorem buildRegular_eq (h : p.length ≤ 251) : buildRegular p = [regularFrame p] :=
  if_pos (by rwa [Config.regMax_eq])

/-- `buildRegular` above its sizes (log 16). -/
theorem buildRegular_free (h : 251 < p.length) : buildRegular p = Config.freeRegular p :=
  if_neg (by rw [Config.regMax_eq]; omega)

/-- `buildExtended` inside its sizes (40_frame_codec R134). -/
theorem buildExtended_eq (hmin : 251 < p.length) (hmax : p.length ≤ 1030) : buildExtended p = [extendedFrame p] :=
  if_pos (by rw [Config.regMax_eq, Config.extMax_eq]; exact ⟨hmin, hmax⟩)

/-- `buildExtended` outside its sizes (log 16). -/
theorem buildExtended_free (h : p.length ≤ 251 ∨ 1030 < p.length) : buildExtended p = Config.freeExtended p :=
  if_neg (by rw [Config.regMax_eq, Config.extMax_eq]; omega)

/-- `buildDivided` inside its sizes (40_frame_codec R133, R135). -/
theorem buildDivided_eq (hmin : 1030 < p.length) (hmax : p.length ≤ 67107843) :
    buildDivided p = some (dividedFrames p) := by
  rw [buildDivided, Config.extMax_eq, if_neg (Nat.not_le.mpr hmin), Config.formatMax_eq, if_pos hmax]

/-- `buildDivided` below its sizes (log 16). -/
theorem buildDivided_free (h : p.length ≤ 1030) : buildDivided p = some (Config.freeDivided p) :=
  if_pos (by rwa [Config.extMax_eq])

/-- Above `EXT_MAX` bytes `buildFrames` is `buildDivided` (40_frame_codec R130). -/
theorem buildFrames_eq_buildDivided (h : 1030 < p.length) : buildFrames p = buildDivided p := by
  have hreg : ¬ p.length ≤ 251 := by omega
  rw [buildFrames, Config.regMax_eq, if_neg hreg, Config.extMax_eq, if_neg (Nat.not_le.mpr h)]

/-- MAX_PAYLOAD is at most what the format can carry (40_frame_codec R133). -/
theorem maxPayload_le : Config.maxPayload ≤ 67107843 :=
  Config.formatMax_eq ▸ Config.maxPayload_bounds.2

/-- A divided message has `ceil(D / 1024)` frames (40_frame_codec R135). -/
theorem dividedFrames_length (p : Bytes) : (dividedFrames p).length = (p.length - 3 + 1023) / 1024 := by
  simp [dividedFrames, frameCount]

/-- `buildFrames` is the operation of the shape that the size selects (40_frame_codec R130, R131). -/
theorem buildFrames_by_size (hmax : p.length ≤ 67107843) : ∃ fs : List Frame, buildFrames p = some fs ∧
    (p.length ≤ 251 → fs = buildRegular p ∧ fs.length = 1) ∧
    (251 < p.length → p.length ≤ 1030 → fs = buildExtended p ∧ fs.length = 1) ∧
    (1030 < p.length → buildDivided p = some fs ∧ 2 ≤ fs.length ∧ fs.length ≤ 65535) := by
  obtain hreg | ⟨hlow, hext⟩ | hdiv : p.length ≤ 251 ∨ (251 < p.length ∧ p.length ≤ 1030) ∨ 1030 < p.length := by
    omega
  · exact ⟨_, buildFrames_regular hreg, fun _ => ⟨(buildRegular_eq hreg).symm, rfl⟩, by omega, by omega⟩
  · exact ⟨_, buildFrames_extended hlow hext, by omega, fun _ _ => ⟨(buildExtended_eq hlow hext).symm, rfl⟩, by omega⟩
  · have hlen := dividedFrames_length p
    have hbuilt := buildDivided_eq hdiv hmax
    exact ⟨_, (buildFrames_eq_buildDivided hdiv).trans hbuilt, by omega, by omega,
      fun _ => ⟨hbuilt, by omega, by omega⟩⟩

/-! ### The build operations as instructions -/

/-- A build operation that has frames answers them and writes nothing else (40_frame_codec R144). -/
theorem buildResult_of_some {r : Option (List Frame)} (h : r = some fs) (s : State) :
    buildResult r s = .next { s with fcOut := .frames fs } := by
  rw [h]
  rfl

/-- `buildRegular` asked by itself. -/
theorem exec_buildRegular (h : buildRegular p = fs) (s : State) :
    exec (.buildRegular p) s = .next { s with fcOut := .frames fs } :=
  buildResult_of_some (congrArg some h) s

/-- `buildExtended` asked by itself. -/
theorem exec_buildExtended (h : buildExtended p = fs) (s : State) :
    exec (.buildExtended p) s = .next { s with fcOut := .frames fs } :=
  buildResult_of_some (congrArg some h) s

/-- `buildDivided` asked by itself. -/
theorem exec_buildDivided (h : buildDivided p = some fs) (s : State) :
    exec (.buildDivided p) s = .next { s with fcOut := .frames fs } :=
  buildResult_of_some h s

/-- `buildFrames` asked by itself, up to MAX_PAYLOAD (40_frame_codec R133). -/
theorem exec_buildFrames (hmax : p.length ≤ Config.maxPayload) (h : buildFrames p = some fs) (s : State) :
    exec (.buildFrames p) s = .next { s with fcOut := .frames fs } :=
  (if_pos hmax).trans (buildResult_of_some h s)

/-! ### Their bytes -/

/-- The bytes of an extended frame (40_frame_codec R134); an EXTLEN of this size has a zero first byte. -/
theorem extendedFrame_eq (hmax : data.length ≤ 1027) :
    extendedFrame ([cmd, sub, cb] ++ data) = sealFrame ([0xFE, cmd, sub, cb, 0, BitVec.ofNat 8 ((data.length + 5) / 256),
      BitVec.ofNat 8 (data.length + 5)] ++ data ++ [0x03]) := by
  have hhigh : (data.length + 5) / 65536 = 0 := by omega
  have hext : be24 (data.length + 5) =
      [0, BitVec.ofNat 8 ((data.length + 5) / 256), BitVec.ofNat 8 (data.length + 5)] := by
    rw [be24, hhigh]
    rfl
  have hbody : extendedFrame ([cmd, sub, cb] ++ data) =
      sealFrame ([0xFE, cmd, sub, cb] ++ be24 (data.length + 5) ++ data ++ [0x03]) := rfl
  rw [hbody, hext]
  rfl

/-- A chunk as the slice of the data that it is (40_frame_codec R135). -/
theorem chunk_eq_take_drop (data : Bytes) (i : Nat) : chunk data i = (data.take (1024 * (i + 1))).drop (1024 * i) := by
  rw [List.drop_take, Nat.mul_succ, Nat.add_sub_cancel_left]
  rfl

/-- The bytes of a divided frame (40_frame_codec R136, R137). -/
theorem dividedFrame_eq (cmd sub cb : Byte) (data : Bytes) (n i : Nat) : dividedFrame [cmd, sub, cb] data n i =
    sealFrame ([0xFE, cmd, sub, cb ||| (if i + 1 = n then 0x03 else 0x02)] ++ be24 ((chunk data i).length + 12) ++
      be16 i ++ be16 n ++ chunk data i ++ [0x03]) := rfl

/-- What stands between the marker and ETX of a divided frame (40_frame_codec R136). -/
def dividedMiddle (header data : Bytes) (n i : Nat) : Bytes :=
  flagHeader (if i + 1 = n then Config.DIV_LAST else Config.DIV_MORE) header ++ be24 ((chunk data i).length + 12) ++
    be16 i ++ be16 n ++ chunk data i

/-- A divided frame is sealed around the marker, what follows it, and ETX (40_frame_codec R136, R138). -/
theorem dividedFrame_eq_sealFrame (header data : Bytes) (n i : Nat) :
    dividedFrame header data n i = sealFrame ([0xFE] ++ dividedMiddle header data n i ++ [0x03]) := rfl

/-- Every frame that is built is sealed around a body from the LEN byte or the marker to ETX (40_frame_codec R138). -/
theorem buildFrames_mem_sealed {f : Frame} (h : buildFrames p = some fs) (hf : f ∈ fs) :
    ∃ mid, f = sealFrame ([if p.length ≤ 251 then BitVec.ofNat 8 (p.length + 2) else 0xFE] ++ mid ++ [0x03]) := by
  obtain hreg | hlow := le_or_gt p.length 251
  · cases (buildFrames_regular hreg).symm.trans h
    rw [List.mem_singleton.mp hf, if_pos hreg]
    exact ⟨p, rfl⟩
  · rw [if_neg (Nat.not_le.mpr hlow)]
    obtain hext | hdiv := le_or_gt p.length 1030
    · cases (buildFrames_extended hlow hext).symm.trans h
      rw [List.mem_singleton.mp hf]
      exact ⟨p.take 3 ++ be24 (p.length - 3 + 5) ++ p.drop 3, rfl⟩
    · cases buildFrames_divided hdiv h
      obtain ⟨i, -, rfl⟩ := List.mem_map.mp hf
      exact ⟨_, dividedFrame_eq_sealFrame ..⟩

/-- Byte 1 of a sealed frame is the first byte of its body, its last two bytes are ETX and the checksum of the body
(30_encoding R103). -/
theorem sealFrame_ends (b : Byte) (mid : Bytes) {f : Frame} (hf : f = sealFrame ([b] ++ mid ++ [0x03])) :
    f[f.length - 1]? = some (Config.checksum ((f.take (f.length - 1)).drop 1)) ∧
      f[f.length - 2]? = some 0x03 ∧ f[1]? = some b := by
  have hlen : f.length = mid.length + 4 := by simp [hf]
  have hcs : f = (0x02 :: b :: mid ++ [0x03]) ++ [Config.checksum ([b] ++ mid ++ [0x03])] := hf
  have hetx : f = (0x02 :: b :: mid) ++ [0x03, Config.checksum ([b] ++ mid ++ [0x03])] :=
    hcs.trans (List.append_assoc ..)
  have hbody : f.take (f.length - 1) = 0x02 :: b :: mid ++ [0x03] := by
    rw [hlen, hcs]
    exact List.take_left' (by simp)
  refine ⟨?_, ?_, by rw [hetx]; rfl⟩
  · rw [hbody, hlen, hcs, List.getElem?_append_right (by simp)]
    simp
  · rw [hlen, hetx, List.getElem?_append_right (by simp)]
    simp

/-! ### The statements about building -/

/-- Settles O32: the frames are those of `dividedFrames`, whose frame `i` is sealed around the bytes of the statement. -/
theorem buildDividedFrames : Obligations.BuildDividedFrames := by
  unfold Obligations.BuildDividedFrames
  intro cmd sub cb data s hmin hmax
  have hsize : ([cmd, sub, cb] ++ data).length = data.length + 3 := rfl
  have hlen := dividedFrames_length ([cmd, sub, cb] ++ data)
  refine ⟨_, exec_buildDivided (buildDivided_eq (by omega) (by omega)) s, by omega, by omega, ?_⟩
  intro i hi c body hc hbody
  rw [← chunk_eq_take_drop] at hc
  subst hc hbody
  rw [List.getElem?_eq_getElem hi, dividedFrames_getElem? (List.getElem?_eq_getElem hi), dividedFrame_eq]
  rfl

/-- Settles O33: each operation of one shape inside and outside its sizes, and `buildFrames` as one of them. -/
theorem buildFramesChoosesBySize : Obligations.BuildFramesChoosesBySize := by
  unfold Obligations.BuildFramesChoosesBySize
  refine ⟨fun p h => buildFrames_by_size h, ?maxPayload, fun p s h => exec_buildRegular (buildRegular_free h) s,
    fun p s h => exec_buildExtended (buildExtended_free h) s, fun p s h => exec_buildDivided (buildDivided_free h) s⟩
  case maxPayload =>
    intro p s hmax
    obtain ⟨fs, hbuilt, -⟩ := buildFrames_by_size (hmax.trans maxPayload_le)
    exact ⟨fs, hbuilt, exec_buildFrames hmax hbuilt s⟩

/-- Settles O38: every frame that is built is sealed. -/
theorem builtFrameEndsInItsChecksum : Obligations.BuiltFrameEndsInItsChecksum := by
  unfold Obligations.BuiltFrameEndsInItsChecksum
  intro p fs f hbuilt hf
  obtain ⟨mid, hsealed⟩ := buildFrames_mem_sealed hbuilt hf
  exact sealFrame_ends _ mid hsealed

/-- Settles O30: up to 251 bytes the one frame of `buildRegular` is the regular frame. -/
theorem buildRegularFrame : Obligations.BuildRegularFrame := by
  unfold Obligations.BuildRegularFrame
  intro p s h
  exact exec_buildRegular (buildRegular_eq h) s

/-- Settles O31: from 252 to 1030 bytes the one frame of `buildExtended` is the extended frame. -/
theorem buildExtendedFrame : Obligations.BuildExtendedFrame := by
  unfold Obligations.BuildExtendedFrame
  intro cmd sub cb data s hmin hmax
  have hsize : ([cmd, sub, cb] ++ data).length = data.length + 3 := rfl
  rw [exec_buildExtended (buildExtended_eq (by omega) (by omega)) s, extendedFrame_eq hmax]
  rfl

end Sys2Proof.Machine
end

section
/-! SUPPORT. The parse operations: what they take from a frame by position, and the round trip of the codec
(40_frame_codec R139 to R143). -/

namespace Sys2Proof.Machine

variable {f f0 : Frame} {rest : List Frame} {p : Bytes} {cmd sub cb : Byte} {data : Bytes}

/-! ### Positions in a frame -/

/-- The slice between the first and the last bytes of a frame. -/
theorem slice_middle {a b c : Bytes} {i j : Nat} (hi : a.length = i) (hj : i + b.length = j) :
    slice (a ++ b ++ c) i j = b := by
  rw [slice_append (by simp; omega), slice_appended hi hj]

/-- A slice counted from its start. -/
theorem slice_eq_take_drop (bs : Bytes) (i j : Nat) : slice bs i j = (bs.drop i).take (j - i) :=
  List.drop_take

/-- The marker in byte 1 tells a frame of an extended shape (30_encoding R94). -/
theorem isExtended_iff : isExtended f = true ↔ f[1]? = some 0xFE :=
  decide_eq_true_iff

/-- A frame without the marker in byte 1 is regular (30_encoding R94). -/
theorem isExtended_eq_false_iff : isExtended f = false ↔ f[1]? ≠ some 0xFE := by
  rw [Ne, ← isExtended_iff, Bool.not_eq_true]

/-! ### The operation of each shape -/

/-- `parseRegular` by position (40_frame_codec R140). -/
theorem parseRegular_append (h0 h1 f1 f0 : Byte) (p : Bytes) : parseRegular ([h0, h1] ++ p ++ [f1, f0]) = some p := by
  have hlen : ([h0, h1] ++ p ++ [f1, f0]).length = p.length + 4 := by simp
  have hfits : regularFits ([h0, h1] ++ p ++ [f1, f0]) = true := decide_eq_true (by omega)
  rw [parseRegular, if_pos hfits, slice_middle (i := 2) rfl (by rw [hlen]; omega)]

/-- `parseExtended` by position (40_frame_codec R141). -/
theorem parseExtended_append (h0 h1 cmd sub cb e2 e1 e0 f1 f0 : Byte) (data : Bytes) :
    parseExtended ([h0, h1, cmd, sub, cb, e2, e1, e0] ++ data ++ [f1, f0]) = some ([cmd, sub, cb] ++ data) := by
  have hlen : ([h0, h1, cmd, sub, cb, e2, e1, e0] ++ data ++ [f1, f0]).length = data.length + 10 := by simp
  have hfits : extendedFits ([h0, h1, cmd, sub, cb, e2, e1, e0] ++ data ++ [f1, f0]) = true :=
    decide_eq_true (by omega)
  rw [parseExtended, if_pos hfits, slice_middle (i := 8) rfl (by rw [hlen]; omega)]
  rfl

/-- What a later frame of a division contributes, counted from its start (40_frame_codec R142). -/
theorem laterData_eq (f : Frame) : laterData f =
    if f[1]? = some 0xFE then (f.drop 12).take (f.length - 14) else (f.drop 5).take (f.length - 7) := by
  have h12 : f.length - 2 - 12 = f.length - 14 := by omega
  have h5 : f.length - 2 - 5 = f.length - 7 := by omega
  simp only [laterData, slice_eq_take_drop, h12, h5, isExtended_iff]

/-- The domain of a later frame of a division (40_frame_codec R142; log 17). -/
theorem laterFits_iff : laterFits f = true ↔ if f[1]? = some 0xFE then 14 ≤ f.length else 7 ≤ f.length := by
  rw [laterFits]
  simp only [isExtended_iff]
  split
  · exact decide_eq_true_iff
  · exact decide_eq_true_iff

/-- The domain of `parseDivided` (40_frame_codec R139, R142; log 17). -/
theorem dividedListFits_iff :
    dividedListFits (f0 :: rest) = true ↔ 14 ≤ f0.length ∧ ∀ f ∈ rest, laterFits f = true := by
  simp [dividedListFits, dividedFits]

/-- `parseDivided` inside its domain (40_frame_codec R142). -/
theorem parseDivided_eq (h : dividedListFits (f0 :: rest) = true) : parseDivided (f0 :: rest) =
    some (slice f0 2 5 ++ slice f0 12 (f0.length - 2) ++ rest.flatMap laterData) := by
  rw [parseDivided, if_pos h, List.flatMap_def]

/-- When frame 0 is divided too, the chunks of all the frames follow its header (40_frame_codec R142). -/
theorem parseDivided_of_extended (h : dividedListFits (f0 :: rest) = true) (hm : isExtended f0 = true) :
    parseDivided (f0 :: rest) = some (slice f0 2 5 ++ (f0 :: rest).flatMap laterData) := by
  rw [parseDivided_eq h, List.flatMap_cons, laterData, if_pos hm, List.append_assoc]

/-! ### The shape, from frame 0 -/

/-- Frame 0 is regular (40_frame_codec R139). -/
theorem parseFrames_of_regular (hm : isExtended f0 = false) (hfits : regularListFits (f0 :: rest) = true) :
    parseFrames (f0 :: rest) = parseRegular f0 := by
  simp only [parseFrames, hm, Bool.false_eq_true, if_false, if_pos hfits]

/-- Frame 0 selects the divided shape (40_frame_codec R139). -/
theorem parseFrames_of_divided (hm : isExtended f0 = true)
    (hs : selectsDivided (!rest.isEmpty) (unbe (slice f0 5 8)) = true) :
    parseFrames (f0 :: rest) = parseDivided (f0 :: rest) := by
  simp only [parseFrames, if_pos hm, if_pos hs]

/-- Frame 0 selects the undivided extended shape (40_frame_codec R139). -/
theorem parseFrames_of_extended (hm : isExtended f0 = true)
    (hs : selectsDivided (!rest.isEmpty) (unbe (slice f0 5 8)) = false) :
    parseFrames (f0 :: rest) = parseExtended f0 := by
  simp only [parseFrames, if_pos hm, hs, Bool.false_eq_true, if_false]

/-- The receiver's test of the shape on frame 0 (30_encoding R105). -/
theorem selectsDivided_frame0_iff : selectsDivided (!rest.isEmpty) (unbe (slice f0 5 8)) = true ↔
    rest ≠ [] ∨ 1032 < unbe ((f0.drop 5).take 3) := by
  rw [slice_eq_take_drop]
  simp [selectsDivided]

/-- In the domain of `parseFrames`, a regular frame 0 stands before regular frames only (log 17). -/
theorem regularListFits_of_fit (h : framesFit (f0 :: rest) = true) (hm : isExtended f0 = false) :
    regularListFits (f0 :: rest) = true := by
  simpa only [framesFit, hm, Bool.false_eq_true, if_false] using h

/-- Inside the domain of `parseFrames` there is a payload (40_frame_codec R139). -/
theorem parseFrames_isSome_of_fit (h : framesFit (f0 :: rest) = true) : ∃ p, parseFrames (f0 :: rest) = some p := by
  cases hm : isExtended f0 with
  | false =>
    have hlist := regularListFits_of_fit h hm
    rw [parseFrames_of_regular hm hlist]
    exact ⟨_, if_pos (Bool.and_eq_true_iff.mp hlist).1⟩
  | true =>
    simp only [framesFit, hm, if_true] at h
    cases hs : selectsDivided (!rest.isEmpty) (unbe (slice f0 5 8)) with
    | false =>
      simp only [hs, Bool.false_eq_true, if_false] at h
      rw [parseFrames_of_extended hm hs]
      exact ⟨_, if_pos h⟩
    | true =>
      simp only [hs, if_true] at h
      rw [parseFrames_of_divided hm hs]
      exact ⟨_, parseDivided_eq h⟩

/-! ### The parse operations as instructions -/

/-- A parse operation that has a payload answers it and writes nothing else (40_frame_codec R144). -/
theorem parseResult_of_some {r : Option Bytes} (h : r = some p) (s : State) :
    parseResult r s = .next { s with fcOut := .payload p } := by
  rw [h]
  rfl

/-- `parseFrames` asked by itself. -/
theorem exec_parseFrames (fs : List Frame) (s : State) :
    exec (.parseFrames fs) s = parseResult (parseFrames fs) s := rfl

/-- `parseRegular` asked by itself. -/
theorem exec_parseRegular (f : Frame) (s : State) : exec (.parseRegular f) s = parseResult (parseRegular f) s := rfl

/-- `parseExtended` asked by itself. -/
theorem exec_parseExtended (f : Frame) (s : State) : exec (.parseExtended f) s = parseResult (parseExtended f) s := rfl

/-- `parseDivided` asked by itself. -/
theorem exec_parseDivided (fs : List Frame) (s : State) :
    exec (.parseDivided fs) s = parseResult (parseDivided fs) s := rfl

/-! ### Round trip -/

/-- The bytes of a regular frame, by position (40_frame_codec R132). -/
theorem regularFrame_eq (p : Bytes) : regularFrame p = [0x02, BitVec.ofNat 8 (p.length + 2)] ++ p ++
    [0x03, Config.checksum ([BitVec.ofNat 8 (p.length + 2)] ++ p ++ [0x03])] := by
  simp [regularFrame, sealFrame, Config.STX, Config.ETX]

/-- The LEN byte of a regular frame is below the marker (30_encoding R94, 40_frame_codec R132). -/
theorem isExtended_regularFrame (h : p.length ≤ 251) : isExtended (regularFrame p) = false := by
  have hlen : (BitVec.ofNat 8 (p.length + 2)).toNat = p.length + 2 := Nat.mod_eq_of_lt (by omega)
  have hmarker : (0xFE : Byte).toNat = 254 := rfl
  refine isExtended_eq_false_iff.mpr fun he => ?_
  have hbyte : BitVec.ofNat 8 (p.length + 2) = (0xFE : Byte) := Option.some.inj he
  rw [hbyte] at hlen
  omega

/-- A single regular frame parses to what it was built from (40_frame_codec R143). -/
theorem parseFrames_regularFrame (h : p.length ≤ 251) : parseFrames [regularFrame p] = some p := by
  have hfits : regularListFits [regularFrame p] = true := by
    simp [regularListFits, regularFits]
  rw [parseFrames_of_regular (isExtended_regularFrame h) hfits, regularFrame_eq]
  exact parseRegular_append ..

/-- A payload of three bytes or more starts with a header. -/
theorem exists_header (h : 3 ≤ p.length) : ∃ cmd sub cb data, p = [cmd, sub, cb] ++ data :=
  match p, h with
  | cmd :: sub :: cb :: data, _ => ⟨cmd, sub, cb, data, rfl⟩

/-- A single extended frame parses to what it was built from (40_frame_codec R143). -/
theorem parseFrames_extendedFrame (hmin : 3 ≤ p.length) (hmax : p.length ≤ 1030) :
    parseFrames [extendedFrame p] = some p := by
  obtain ⟨cmd, sub, cb, data, rfl⟩ := exists_header hmin
  have hsize : ([cmd, sub, cb] ++ data).length = data.length + 3 := rfl
  obtain ⟨cs, hframe⟩ := extendedFrame_eq_encodeExt cmd sub cb data
  have hfield : slice (encodeExt cmd sub cb data cs) 5 8 = be24 (data.length + 5) := rfl
  have hs : selectsDivided false (unbe (slice (encodeExt cmd sub cb data cs) 5 8)) = false := by
    rw [hfield, unbe_be24 (by omega)]
    simp [selectsDivided]
    omega
  rw [hframe, parseFrames_of_extended (rest := []) rfl hs]
  exact parseExtended_append ..

/-- A divided frame has the marker (40_frame_codec R136). -/
theorem isExtended_dividedFrame (header data : Bytes) (n i : Nat) : isExtended (dividedFrame header data n i) = true :=
  rfl

/-- A divided frame with a whole header has all the fields of its shape (40_frame_codec R136). -/
theorem dividedFits_dividedFrame {header : Bytes} (hh : header.length = 3) (data : Bytes) (n i : Nat) :
    dividedFits (dividedFrame header data n i) = true :=
  decide_eq_true (by rw [dividedFrame_length hh]; omega)

/-- The header of a divided frame is that of the payload with the flags OR-ed into the codebit (40_frame_codec R137). -/
theorem slice_header_dividedFrame (cmd sub cb : Byte) (data : Bytes) (n i : Nat) :
    slice (dividedFrame [cmd, sub, cb] data n i) 2 5 = [cmd, sub, cb ||| (if i + 1 = n then 0x03 else 0x02)] := rfl

/-- A divided frame contributes its chunk (40_frame_codec R136, R142). -/
theorem laterData_dividedFrame (cmd sub cb : Byte) (data : Bytes) (n i : Nat) :
    laterData (dividedFrame [cmd, sub, cb] data n i) = chunk data i := by
  obtain ⟨cs, hframe⟩ := dividedFrame_eq_encodeDiv cmd sub cb data n i
  have hlen := dividedFrame_length (header := [cmd, sub, cb]) rfl data n i
  rw [laterData, if_pos (isExtended_dividedFrame ..), hlen, hframe]
  exact slice_middle (a := [Config.STX, Config.EXT_LEN, cmd, sub, _] ++ be24 _ ++ be16 _ ++ be16 _)
    (c := [Config.ETX, cs]) rfl (by omega)

/-- The first chunks, one after the other, are the beginning of the data (40_frame_codec R135). -/
theorem chunks_append (data : Bytes) (n : Nat) : (List.range n).flatMap (chunk data) = data.take (1024 * n) := by
  induction n with
  | zero => rfl
  | succ n ih => simp [List.range_succ, ih, Nat.mul_succ, List.take_add, chunk]

/-- The chunks of all the frames of a message are its data (40_frame_codec R135, R142). -/
theorem dividedFrames_flatMap_laterData (cmd sub cb : Byte) (data : Bytes) :
    (dividedFrames ([cmd, sub, cb] ++ data)).flatMap laterData = data := by
  have hchunk : laterData ∘ dividedFrame [cmd, sub, cb] data (frameCount data.length) = chunk data :=
    funext (laterData_dividedFrame cmd sub cb data _)
  have hall : data.length ≤ 1024 * frameCount data.length := by
    simp only [frameCount, Config.chunkMax_eq]
    omega
  calc (dividedFrames ([cmd, sub, cb] ++ data)).flatMap laterData
      = (List.range (frameCount data.length)).flatMap
          (laterData ∘ dividedFrame [cmd, sub, cb] data (frameCount data.length)) := List.flatMap_map ..
    _ = data := by rw [hchunk, chunks_append, List.take_of_length_le hall]

/-- Every frame of a division has the marker and all the fields of its shape. -/
theorem dividedFrames_mem_fits (hp : 3 ≤ p.length) (hf : f ∈ dividedFrames p) :
    isExtended f = true ∧ dividedFits f = true := by
  obtain ⟨i, -, rfl⟩ := List.mem_map.mp hf
  have hheader : (p.take Config.hdr).length = 3 := by simp; omega
  exact ⟨isExtended_dividedFrame .., dividedFits_dividedFrame hheader ..⟩

/-- A divided frame fits as a later frame too. -/
theorem laterFits_of_dividedFits (hm : isExtended f = true) (hfits : dividedFits f = true) : laterFits f = true :=
  (if_pos hm).trans hfits

/-- Two or more divided frames parse to the header of the first one and the chunks of all (40_frame_codec R139, R142).
-/
theorem parseFrames_of_all_divided {fs : List Frame} (hmany : 2 ≤ fs.length)
    (hfit : ∀ f ∈ fs, isExtended f = true ∧ dividedFits f = true) :
    ∃ f0, fs[0]? = some f0 ∧ parseFrames fs = some (slice f0 2 5 ++ fs.flatMap laterData) := by
  match fs with
  | [] | [_] => simp at hmany
  | f0 :: f1 :: rest =>
    obtain ⟨⟨hm, hfits⟩, hlater⟩ := List.forall_mem_cons.mp hfit
    have hlist : dividedListFits (f0 :: f1 :: rest) = true :=
      dividedListFits_iff.mpr ⟨of_decide_eq_true hfits, fun f hf =>
        have ⟨hmarker, hlong⟩ := hlater f hf
        laterFits_of_dividedFits hmarker hlong⟩
    exact ⟨f0, rfl, (parseFrames_of_divided hm rfl).trans (parseDivided_of_extended hlist hm)⟩

/-- Divided frames parse to what they were built from, with the flags of frame 0 in the codebit (40_frame_codec R143;
decision D6). -/
theorem parseFrames_dividedFrames (hd : 1027 < data.length) :
    parseFrames (dividedFrames ([cmd, sub, cb] ++ data)) = some ([cmd, sub, cb ||| 0x02] ++ data) := by
  have hsize : ([cmd, sub, cb] ++ data).length = data.length + 3 := rfl
  have hlen := dividedFrames_length ([cmd, sub, cb] ++ data)
  have hmany : 2 ≤ (dividedFrames ([cmd, sub, cb] ++ data)).length := by omega
  have hnotLast : ¬ 0 + 1 = (dividedFrames ([cmd, sub, cb] ++ data)).length := by omega
  obtain ⟨f0, hfirst, hparse⟩ := parseFrames_of_all_divided hmany fun f hf => dividedFrames_mem_fits (by omega) hf
  have hheader : slice f0 2 5 = [cmd, sub, cb ||| 0x02] := by
    rw [dividedFrames_getElem? hfirst, slice_header_dividedFrame, if_neg hnotLast]
  rw [hparse, hheader, dividedFrames_flatMap_laterData]

/-! ### The statements about parsing -/

/-- Settles O37: one round trip for each shape. -/
theorem codecRoundTrip : Obligations.CodecRoundTrip := by
  unfold Obligations.CodecRoundTrip
  refine ⟨fun p hmax => ?_, fun cmd sub cb data hmin hmax => ?_⟩
  · obtain hreg | hlow := le_or_gt p.length 251
    · exact ⟨_, buildFrames_regular hreg, parseFrames_regularFrame hreg⟩
    · exact ⟨_, buildFrames_extended hlow hmax, parseFrames_extendedFrame (by omega) hmax⟩
  · have hsize : ([cmd, sub, cb] ++ data).length = data.length + 3 := rfl
    have hbuilt := buildDivided_eq (p := [cmd, sub, cb] ++ data) (by omega) (by omega)
    exact ⟨_, (buildFrames_eq_buildDivided (by omega)).trans hbuilt, parseFrames_dividedFrames hmin⟩

/-- Settles O34: both operations, by position. -/
theorem parseOneFrame : Obligations.ParseOneFrame := by
  unfold Obligations.ParseOneFrame
  refine ⟨fun h0 h1 f1 f0 p s => ?_, fun h0 h1 cmd sub cb e2 e1 e0 f1 f0 data s => ?_⟩
  · rw [exec_parseRegular]
    exact parseResult_of_some (parseRegular_append ..) s
  · rw [exec_parseExtended]
    exact parseResult_of_some (parseExtended_append ..) s

/-- Settles O35: `parseDivided` inside its domain, its slices counted from their start. -/
theorem parseDividedFrames : Obligations.ParseDividedFrames := by
  unfold Obligations.ParseDividedFrames
  intro f0 rest s h0 hrest
  have hlist : dividedListFits (f0 :: rest) = true :=
    dividedListFits_iff.mpr ⟨h0, fun f hf => laterFits_iff.mpr (hrest f hf)⟩
  have hchunk : f0.length - 2 - 12 = f0.length - 14 := by omega
  rw [exec_parseDivided, parseResult_of_some (parseDivided_eq hlist), slice_eq_take_drop, slice_eq_take_drop, hchunk,
    funext laterData_eq]

/-- Settles O36: the two tests on frame 0 choose the operation, and inside the domain there is a payload. -/
theorem parseFramesChoosesByFirstFrame : Obligations.ParseFramesChoosesByFirstFrame := by
  unfold Obligations.ParseFramesChoosesByFirstFrame
  intro f0 rest s hfit
  obtain ⟨p, hp⟩ := parseFrames_isSome_of_fit hfit
  refine ⟨p, (exec_parseFrames ..).trans (parseResult_of_some hp s), ?_⟩
  rw [exec_parseFrames, exec_parseRegular, exec_parseDivided, exec_parseExtended]
  simp only [← selectsDivided_frame0_iff, ← isExtended_eq_false_iff]
  cases hm : isExtended f0 with
  | false =>
    rw [if_pos rfl, parseFrames_of_regular hm (regularListFits_of_fit hfit hm)]
  | true =>
    rw [if_neg Bool.noConfusion]
    cases hs : selectsDivided (!rest.isEmpty) (unbe (slice f0 5 8)) with
    | true => rw [if_pos rfl, parseFrames_of_divided hm hs]
    | false => rw [if_neg Bool.noConfusion, parseFrames_of_extended hm hs]

end Sys2Proof.Machine
end

section
/-! SUPPORT. Who owns the lock from step to step: each engine's side of `LockInv`, which its own moves keep and which
the other engine's moves do not touch (41_send_fsm R177, 42_receive_fsm R226). -/

namespace Sys2Proof.Machine

/-! ### The two sides of the invariant -/

/-- The send engine's side of `LockInv`. -/
structure SendLock (s : State) : Prop where
  running : s.sRun = true → (s.lockOwner = some .send ↔ sendOwns s = true) ∧ s.sPhase ∈ sendPhases s.sState
  stopped : s.sRun = false → s.lockOwner ≠ some .send

/-- The receive engine's side of `LockInv`. -/
structure RecvLock (s : State) : Prop where
  running : s.rRun = true →
    (s.rState ≠ .error → s.rState ≠ .end_ → (s.lockOwner = some .recv ↔ recvOwns s = true)) ∧
      recvPhaseOk s.rState s.rPhase = true
  stopped : s.rRun = false → s.lockOwner ≠ some .recv

/-- The invariant is its two sides. -/
theorem lockInv_iff {s : State} : LockInv s ↔ SendLock s ∧ RecvLock s where
  mp h :=
    ⟨⟨fun hr => ⟨h.send hr, h.sendPhase hr⟩, h.sendStopped⟩, ⟨fun hr => ⟨h.recv hr, h.recvPhase hr⟩, h.recvStopped⟩⟩
  mpr := fun ⟨hsend, hrecv⟩ =>
    { send := fun hr => (hsend.running hr).1
      sendStopped := hsend.stopped
      recv := fun hr => (hrecv.running hr).1
      recvStopped := hrecv.stopped
      sendPhase := fun hr => (hsend.running hr).2
      recvPhase := fun hr => (hrecv.running hr).2 }

/-- The send side reads nothing but the send engine's registers and whether that engine owns the lock. -/
theorem SendLock.of_sendRegs {s t : State} (h : SendLock s) (hregs : sendRegs t = sendRegs s)
    (hown : t.lockOwner = some .send ↔ s.lockOwner = some .send) : SendLock t := by
  obtain ⟨hst, hrun, -, hph, -⟩ := sendRegs_eq_iff.mp hregs
  have howns : sendOwns t = sendOwns s := by simp only [sendOwns, hst, hph]
  exact ⟨fun hr => by rw [hown, howns, hst, hph]; exact h.running (hrun ▸ hr),
    fun hr => mt hown.mp (h.stopped (hrun ▸ hr))⟩

/-- The receive side reads nothing but the receive engine's registers and whether that engine owns the lock. -/
theorem RecvLock.of_recvRegs {s t : State} (h : RecvLock s) (hregs : recvRegs t = recvRegs s)
    (hown : t.lockOwner = some .recv ↔ s.lockOwner = some .recv) : RecvLock t := by
  obtain ⟨hst, hrun, -, hph, -⟩ := recvRegs_eq_iff.mp hregs
  have howns : recvOwns t = recvOwns s := by simp only [recvOwns, hst]
  exact ⟨fun hr => by rw [hown, howns, hst, hph]; exact h.running (hrun ▸ hr),
    fun hr => mt hown.mp (h.stopped (hrun ▸ hr))⟩

/-- A step that moves no register of an engine and leaves the lock keeps the invariant. -/
theorem LockInv.of_regs {s t : State} (h : LockInv s) (hs : sendRegs t = sendRegs s) (hr : recvRegs t = recvRegs s)
    (ho : t.lockOwner = s.lockOwner) : LockInv t := by
  obtain ⟨hsend, hrecv⟩ := lockInv_iff.mp h
  exact lockInv_iff.mpr ⟨hsend.of_sendRegs hs (by rw [ho]), hrecv.of_recvRegs hr (by rw [ho])⟩

/-! ### A release -/

/-- After a release by `e` the lock is not owned by `e`. -/
theorem lockRelease_not_owner (e : Engine) (s : State) : (lockRelease e s).lockOwner ≠ some e := by
  simp only [lockRelease_lockOwner]
  split
  · exact nofun
  · next h => exact h

/-- A release by one engine does not change whether the other owns the lock (70_reset_and_hazards R376). -/
theorem lockRelease_owner_other {e o : Engine} (hne : o ≠ e) (s : State) :
    (lockRelease e s).lockOwner = some o ↔ s.lockOwner = some o := by
  simp only [lockRelease_lockOwner]
  split
  · next h => simp [h, hne.symm]
  · exact Iff.rfl

/-! ### The moves of the send engine -/

/-- At the start of its action the send engine owns the lock in every state but `idle` and `enquiry` (41_send_fsm
R177). -/
theorem sendOwns_start {s : State} (h : s.sPhase = .start) :
    sendOwns s = true ↔ s.sState ≠ .idle ∧ s.sState ≠ .enquiry := by
  unfold sendOwns
  cases s.sState <;> simp [h, SendPhase.released]

/-- Every action can be at its start. -/
theorem start_mem_sendPhases (st : SendState) : .start ∈ sendPhases st := by
  cases st <;> simp [sendPhases]

/-- The send side for an engine that runs and is at the start of its action. -/
theorem sendLock_of_start {t : State} (hr : t.sRun = true) (hph : t.sPhase = .start)
    (ho : t.lockOwner = some .send ↔ t.sState ≠ .idle ∧ t.sState ≠ .enquiry) : SendLock t :=
  ⟨fun _ => ⟨ho.trans (sendOwns_start hph).symm, hph ▸ start_mem_sendPhases _⟩, fun h => by simp [hr] at h⟩

/-- No state whose action is device calls gives the lock up: its successors are states of the owner (41_send_fsm
R177). -/
theorem sendPlain_successor {ss : SendState} (hp : sendPlain ss = true) (ev : Event) (d : SendState) :
    (tSend ss ev).getD d ≠ .idle ∧ (tSend ss ev).getD d ≠ .enquiry := by
  cases ss with
  | reenquiry | ack | frame | ack2 | nak => cases ev <;> simp [tSend]
  | _ => cases hp

/-- Every move of the send engine keeps its side of the invariant (41_send_fsm R177). -/
theorem SendMove.keeps_sendLock {s t : State} (h : SendMove s t) (hr : s.sRun = true) (hi : SendLock s) :
    SendLock t := by
  obtain ⟨hown, hph⟩ := hi.running hr
  cases h with
  | waits => exact hi
  | emits ss ev _ _ _ st plain =>
    subst st
    exact sendLock_of_start hr rfl (iff_of_true (hown.mpr (sendOwns_of_plain plain)) (sendPlain_successor plain ev _))
  | idle st => exact sendLock_of_start hr rfl (by simpa [sendOwns, st, tSend] using hown)
  | enquiry => exact sendLock_of_start hr rfl (by simp [tSend])
  | drains => exact hi.of_sendRegs rfl Iff.rfl
  | drained _ st => exact ⟨fun _ => ⟨by simpa [sendOwns, st] using hown, by simp [sendPhases, st]⟩, hi.stopped⟩
  | retryRelease st | waitRelease st =>
    exact ⟨fun _ => ⟨iff_of_false (lockRelease_not_owner _ _) (by simp [sendOwns, st, SendPhase.released]),
      by simp [sendPhases, st]⟩, fun h => by simp [hr] at h⟩
  | retryFail st ph => exact sendLock_of_start hr rfl (by simpa [sendOwns, st, tSend, ph] using hown)
  | retryDue st ph | retryClose st ph =>
    exact ⟨fun _ => ⟨by simpa [sendOwns, st, ph, SendPhase.released] using hown, by simp [sendPhases, st]⟩, hi.stopped⟩
  | retryPass st ph | retryOpen _ _ _ st ph | waitPass st ph =>
    exact sendLock_of_start hr rfl (by simpa [sendOwns, st, tSend, ph, SendPhase.released] using hown)
  | doneMore st | doneLast st | error st => exact sendLock_of_start hr rfl (by simpa [sendOwns, st, tSend] using hown)
  | end_ => exact ⟨nofun, fun _ => lockRelease_not_owner _ _⟩

/-- No move of the send engine changes whether the receive engine owns the lock. -/
theorem SendMove.owner_recv_iff {s t : State} (h : SendMove s t) :
    t.lockOwner = some .recv ↔ s.lockOwner = some .recv := by
  cases h with
  | enquiry _ free => obtain free | free := free <;> simp [free]
  | retryRelease => exact lockRelease_owner_other (e := .send) (by decide) { s with r2 := s.r2 + 1 }
  | waitRelease | end_ => exact lockRelease_owner_other (e := .send) (by decide) s
  | _ => exact Iff.rfl

/-! ### The moves of the receive engine -/

/-- The receive side for an engine that runs and is at the start of its action: nothing is asked of `error` and `end`.
-/
theorem recvLock_of_start {t : State} (hr : t.rRun = true) (hph : t.rPhase = .start)
    (ho : t.rState = .error ∨ t.rState = .end_ ∨
      (t.lockOwner = some .recv ↔ t.rState ≠ .idle ∧ t.rState ≠ .poll)) : RecvLock t := by
  have howns : recvOwns t = true ↔ t.rState ≠ .idle ∧ t.rState ≠ .poll := by
    unfold recvOwns
    cases t.rState <;> simp
  refine ⟨fun _ => ⟨fun herror hend => ?_, by simp [recvPhaseOk, hph]⟩, fun h => by simp [hr] at h⟩
  obtain h | h | h := ho
  · exact absurd h herror
  · exact absurd h hend
  · exact h.trans howns.symm

/-- Only `idle` and `repoll` lead to `poll`, and nothing leads to `idle` (42_receive_fsm R202). -/
theorem recv_successor_holds {rs : RecvState} (h : rs ≠ .idle ∧ rs ≠ .repoll ∧ rs ≠ .end_) (ev : Event)
    (d : RecvState) : (tRecv rs ev).getD d ≠ .idle ∧ (tRecv rs ev).getD d ≠ .poll := by
  obtain ⟨hidle, hrepoll, hend⟩ := h
  cases rs with
  | idle => exact absurd rfl hidle
  | repoll => exact absurd rfl hrepoll
  | end_ => exact absurd rfl hend
  | _ => cases ev <;> simp [tRecv]

/-- The receive side for an engine that owns the lock at the start of a state that is entered with it. -/
theorem recvLock_of_owner {t : State} (hr : t.rRun = true) (hph : t.rPhase = .start) (ho : t.lockOwner = some .recv)
    (hst : t.rState ≠ .idle ∧ t.rState ≠ .poll) : RecvLock t :=
  recvLock_of_start hr hph (.inr (.inr (iff_of_true ho hst)))

/-- The states with an action of device calls and an event are none of those that `recv_successor_holds` leaves out. -/
theorem recvPlain_states {rs : RecvState} {ev : Event} (h : recvPlain rs ev = true) :
    rs ≠ .idle ∧ rs ≠ .repoll ∧ rs ≠ .end_ := by
  refine ⟨?_, ?_, ?_⟩ <;> rintro rfl <;> simp [recvPlain] at h

/-- Every move of the receive engine keeps its side of the invariant (42_receive_fsm R226). -/
theorem RecvMove.keeps_recvLock {s t : State} (h : RecvMove s t) (hr : s.rRun = true) (hi : RecvLock s) :
    RecvLock t := by
  obtain ⟨hown, hph⟩ := hi.running hr
  have owner {rs : RecvState} (st : s.rState = rs) (hrs : rs ≠ .idle ∧ rs ≠ .poll ∧ rs ≠ .error ∧ rs ≠ .end_) :
      s.lockOwner = some .recv := by
    obtain ⟨howns, herror, hend⟩ := recvHoldsLock_iff.mpr (st ▸ hrs)
    exact (hown herror hend).mpr howns
  have free {rs : RecvState} (st : s.rState = rs) (hrs : rs = .idle ∨ rs = .poll) : s.lockOwner ≠ some .recv := by
    obtain rfl | rfl := hrs <;> simpa [st, recvOwns] using hown
  cases h with
  | waits => exact hi
  | emits rs ev _ _ _ st plain =>
    obtain ⟨howns, herror, hend⟩ := recvHoldsLock_of_plain st plain
    exact recvLock_of_owner hr rfl ((hown herror hend).mpr howns) (recv_successor_holds (recvPlain_states plain) ev _)
  | idle st => exact recvLock_of_start hr rfl (.inr (.inr (iff_of_false (free st (by decide)) (by simp [tRecv]))))
  | pollReadable _ st =>
    exact ⟨fun _ => ⟨fun _ _ => by simpa [st, recvOwns] using free st (by decide), by simp [st, recvPhaseOk]⟩,
      hi.stopped⟩
  | pollFail => exact recvLock_of_start hr rfl (.inl rfl)
  | pollPass => exact recvLock_of_start hr rfl (.inr (.inr (by simp [tRecv])))
  | drains _ _ _ st =>
    exact ⟨fun _ => ⟨fun _ _ => by simpa [st, recvOwns] using owner st (by decide), by simp [st, recvPhaseOk]⟩,
      hi.stopped⟩
  | drained _ st => exact recvLock_of_owner hr rfl (owner st (by decide)) (recv_successor_holds (by decide) _ _)
  | repoll => exact recvLock_of_start hr rfl (.inr (.inr (iff_of_false (lockRelease_not_owner _ _) (by simp [tRecv]))))
  | len _ _ b st =>
    obtain ⟨ev, sh, n, he⟩ := lenByte_frame b _
    rw [he]
    exact recvLock_of_owner hr rfl (owner st (by decide)) (recv_successor_holds (by decide) ev _)
  | extlen _ _ bs st =>
    obtain ⟨ev, sh, n, he⟩ := extLenBytes_frame bs _
    rw [he]
    exact recvLock_of_owner hr rfl (owner st (by decide)) (recv_successor_holds (by decide) ev _)
  | stx _ _ _ st | etx _ _ _ st | cs _ _ _ st =>
    exact recvLock_of_owner hr rfl (owner st (by decide)) (recv_successor_holds (by decide) _ _)
  | datacmd _ _ _ st | number _ _ _ st | data _ _ _ st | extlenSkip st | numberSkip st | dataNone st | retryPass st
  | retryFail st | doneMore st | doneLast st =>
    exact recvLock_of_owner hr rfl (owner st (by decide)) ⟨nofun, nofun⟩
  | error => exact recvLock_of_start hr rfl (.inr (.inl rfl))
  | endOk | endFail => exact ⟨nofun, fun _ => lockRelease_not_owner _ _⟩

/-- No move of the receive engine changes whether the send engine owns the lock. -/
theorem RecvMove.owner_send_iff {s t : State} (h : RecvMove s t) :
    t.lockOwner = some .send ↔ s.lockOwner = some .send := by
  cases h with
  | pollPass _ _ free => obtain free | free := free <;> simp [free]
  | repoll | endOk | endFail => exact lockRelease_owner_other (e := .recv) (by decide) s
  | len _ _ b => obtain ⟨ev, sh, n, he⟩ := lenByte_frame b _; rw [he]; exact Iff.rfl
  | extlen _ _ bs => obtain ⟨ev, sh, n, he⟩ := extLenBytes_frame bs _; rw [he]; exact Iff.rfl
  | _ => exact Iff.rfl

/-! ### The other turns -/

/-- A `send` that starts is in `idle`, where it need not own the lock. -/
theorem LockInv.startSend {s : State} (h : LockInv s) (hr : s.sRun = false) (p : Bytes) (fs : List Frame) :
    LockInv (startSend p fs s) := by
  obtain ⟨hsend, hrecv⟩ := lockInv_iff.mp h
  exact lockInv_iff.mpr
    ⟨sendLock_of_start rfl rfl (iff_of_false (hsend.stopped hr) (by simp)), hrecv.of_recvRegs rfl Iff.rfl⟩

/-- A `receive` that starts is in `idle`, where it need not own the lock. -/
theorem LockInv.startReceive {s : State} (h : LockInv s) (hr : s.rRun = false) : LockInv (startReceive s) := by
  obtain ⟨hsend, hrecv⟩ := lockInv_iff.mp h
  exact lockInv_iff.mpr ⟨hsend.of_sendRegs rfl Iff.rfl,
    recvLock_of_start rfl rfl (.inr (.inr (iff_of_false (hrecv.stopped hr) (by simp))))⟩

/-- The request `send`, from the host or held before. -/
theorem LockInv.execSend {s t : State} {p : Bytes} (hi : LockInv s) (h : execSend p s = .next t) : LockInv t := by
  obtain ⟨-, -, -, fs, -, ⟨-, rfl⟩ | ⟨hr, rfl⟩⟩ := execSend_cases h
  · exact hi.of_regs rfl rfl rfl
  · exact hi.startSend hr p fs

/-- The request `receive`, from the host or held before. -/
theorem LockInv.execReceive {s t : State} (hi : LockInv s) (h : execReceive s = .next t) : LockInv t := by
  obtain ⟨-, ⟨-, rfl⟩ | ⟨hr, rfl⟩⟩ := execReceive_cases h
  · exact hi.of_regs rfl rfl rfl
  · exact hi.startReceive hr

/-- A request of the host keeps the invariant; a transport that is constructed has both engines stopped and the lock
free (43_orchestrator R261). -/
theorem LockInv.execHost {s t : State} (hi : LockInv s) (r : HostRequest) (h : exec (hostInstr r) s = .next t) :
    LockInv t := by
  cases r with
  | construct =>
    obtain ⟨-, ⟨-, rfl⟩ | ⟨s1, -, rfl⟩⟩ := execConstruct_cases h
    · exact hi
    · exact lockInv_of_stopped rfl rfl rfl
  | send p => exact hi.execSend h
  | receive => exact hi.execReceive h
  | destruct => obtain ⟨-, -, rfl⟩ := execDestruct_cases h; exact hi.of_regs rfl rfl rfl
  | readCounters => obtain ⟨-, rfl⟩ := execReadCounters_cases h; exact hi.of_regs rfl rfl rfl

/-- Settles O45: an engine's move keeps its own side of the invariant and leaves the other's alone; every other turn
starts a call in `idle`, constructs the transport anew, or moves neither the engines nor the lock. -/
theorem everyStepKeepsLockOwnership : Obligations.EveryStepKeepsLockOwnership := by
  unfold Obligations.EveryStepKeepsLockOwnership
  intro s t hi h
  cases step_cases h with
  | idle _ eq => exact eq ▸ hi
  | arrives _ _ _ _ eq | delivers _ _ _ eq | passes _ _ _ eq => subst eq; exact hi.of_regs rfl rfl rfl
  | collects rest k _ eq => subst eq; exact hi.of_regs (by simp [sendRegs]) (by simp [recvRegs]) (by simp)
  | send rest _ run eq =>
    have hm := send_cases (s := { s with turns := rest }) eq
    obtain ⟨hsend, hrecv⟩ := lockInv_iff.mp hi
    exact lockInv_iff.mpr ⟨hm.keeps_sendLock run (hsend.of_sendRegs rfl Iff.rfl),
      hrecv.of_recvRegs hm.keeps_recvRegs hm.owner_recv_iff⟩
  | recv rest _ run eq =>
    have hm := recv_cases (s := { s with turns := rest }) eq
    obtain ⟨hsend, hrecv⟩ := lockInv_iff.mp hi
    exact lockInv_iff.mpr ⟨hsend.of_sendRegs hm.keeps_sendRegs hm.owner_send_iff,
      hm.keeps_recvLock run (hrecv.of_recvRegs rfl Iff.rfl)⟩
  | codec rest r _ eq => obtain ⟨o, rfl⟩ := exec_codec_cases eq; exact hi.of_regs rfl rfl rfl
  | host rest r _ eq => exact LockInv.execHost (s := { s with turns := rest }) (hi.of_regs rfl rfl rfl) r eq
  | heldSend rest k p _ _ _ eq =>
    exact LockInv.execSend (s := { s with turns := rest, heldSends := s.heldSends.eraseIdx k })
      (hi.of_regs rfl rfl rfl) eq
  | heldReceive rest n _ _ _ eq =>
    exact LockInv.execReceive (s := { s with turns := rest, heldReceives := n }) (hi.of_regs rfl rfl rfl) eq

end Sys2Proof.Machine
end

section
/-! SUPPORT. The actions of the send states as equations of the next state (41_send_fsm R162 to R175). -/

namespace Sys2Proof.Machine

variable {s : State} {st : SendState} {a w : DevAnswer} {rest : List DevAnswer}

/-- Settles O50: each cell is an entry of the definition. -/
theorem sendTransitionTable : Obligations.SendTransitionTable := by
  unfold Obligations.SendTransitionTable
  exact ⟨rfl, rfl, rfl, rfl, rfl, rfl, rfl, rfl, rfl, rfl, rfl, rfl⟩

/-! ### The states without a device call -/

/-- The second turn of send `wait` (41_send_fsm R172). -/
theorem execSWait_slept (h : s.sPhase = .sleep) : execSWait s = .next (sendEmit .wait .pass s) := by
  simp only [execSWait, h, sleep]

/-- Send `idle` (41_send_fsm R164). -/
theorem exec_sIdle (s : State) :
    exec .sIdle s = .next { s with r2 := 0, sEvent := .pass, sState := .enquiry, sPhase := .start } := rfl

/-- Send `error` (41_send_fsm R174). -/
theorem exec_sError (s : State) :
    exec .sError s = .next { s with txOk := false, sEvent := .pass, sState := .end_, sPhase := .start } := rfl

/-- Settles O10: `idle` and `error` by definition, `wait` turn by turn. -/
theorem sendIdleWaitError : Obligations.SendIdleWaitError := by
  unfold Obligations.SendIdleWaitError
  exact ⟨exec_sIdle, fun _ => execSWait_first, fun _ => execSWait_slept, exec_sError⟩

/-- Send `done`: `tx_more` decides between the two cases (41_send_fsm R173). -/
theorem exec_sDone (s : State) : exec .sDone s =
    if s.txCursor.toNat + 1 < s.txf.length then
      .next { s with txCursor := s.txCursor + 1, sEvent := .wait, sState := .reenquiry, sPhase := .start }
    else .next { s with txOk := true, sEvent := .pass, sState := .end_, sPhase := .start } := by
  simp only [exec, execSDone, State.txMore, decide_eq_true_eq]
  rfl

/-- Settles O16: the equation of `done`. -/
theorem sendDoneAdvancesOrSucceeds : Obligations.SendDoneAdvancesOrSucceeds := by
  unfold Obligations.SendDoneAdvancesOrSucceeds
  exact exec_sDone

/-- Settles O17: the registers without a defined value hold the free values of `endSend`. -/
theorem sendEndReleasesAndReturns : Obligations.SendEndReleasesAndReturns := by
  unfold Obligations.SendEndReleasesAndReturns
  exact fun _ => ⟨_, _, _, _, _, rfl⟩

/-- A free lock is granted (10_state R40). -/
theorem lockAcquire_free {e : Engine} (h : s.lockOwner = none) :
    lockAcquire e s = some { s with lockOwner := some e } := by
  simp only [lockAcquire, h]

/-- The send engine is granted a lock that the receive engine does not own (10_state R40). -/
theorem lockAcquire_send (h : s.lockOwner ≠ some .recv) :
    lockAcquire .send s = some { s with lockOwner := some .send } := by
  cases hl : lockAcquire .send s with
  | some s' => rw [(lockAcquire_cases hl).2]
  | none =>
    obtain ⟨_ | _, hne, ho⟩ := lockAcquire_waits hl
    · exact absurd rfl hne
    · exact absurd ho h

/-- Send `enquiry` takes a lock that the receive engine does not own (41_send_fsm R165). -/
theorem exec_sEnquiry (h : s.lockOwner ≠ some .recv) :
    exec .sEnquiry s = .next { s with
      lockOwner := some .send, sEvent := .pass, sState := .reenquiry, sPhase := .start } := by
  simp only [exec, execSEnquiry, lockAcquire_send h]
  rfl

/-! ### The answer reads -/

/-- An answer read that takes a byte (41_send_fsm R163). -/
theorem answerWait_byte {b : Byte} {bs : Bytes} (ha : s.answers = a :: rest) (hs : a.status = .success)
    (hb : s.devIn = b :: bs) :
    answerWait st s = .next (sendEmit st (classifyAnswer (.success b)) { s with answers := rest, devIn := bs }) := by
  simp only [answerWait, devRead1_byte ha hs hb]

/-- An answer read in which no byte comes in time (41_send_fsm R163). -/
theorem answerWait_timeout (ha : s.answers = a :: rest) (hs : a.status = .timeout) :
    answerWait st s = .next (sendEmit st .deny { s with answers := rest }) := by
  simp only [answerWait, devRead1_timeout ha hs (by simp : Config.tField ≠ some 0), classifyAnswer]

/-- A one-byte read that answers an error (60_exceptions R333). -/
theorem devRead1_error {t : Config.Deadline} (ha : s.answers = a :: rest) (hs : a.status = .error) :
    devRead1 t s = some (.error, { s with answers := rest, devIn := a.stream }) := by
  simp only [devRead1, ha, read1, hs]

/-- An answer read that meets an error takes no byte (41_send_fsm R163). -/
theorem answerWait_error (ha : s.answers = a :: rest) (hs : a.status = .error) :
    answerWait st s = .next (sendEmit st .fail { s with answers := rest }) := by
  simp only [answerWait, devRead1_error ha hs, classifyAnswer]

/-- The event of a byte that is read as an answer (41_send_fsm R163). -/
theorem classifyAnswer_success (b : Byte) : classifyAnswer (.success b) =
    if b = 0x06 then .pass else if b = 0x15 then .busy else if b = 0x05 then .wait else .deny := rfl

/-- Where send `ack` goes with a byte (41_send_fsm R162, R163). -/
theorem tSend_ack_byte (b : Byte) (d : SendState) : (tSend .ack (classifyAnswer (.success b))).getD d =
    if b = 0x06 then .frame else if b = 0x15 then .reenquiry else if b = 0x05 then .nak else .retry := by
  rw [classifyAnswer_success]
  split_ifs <;> rfl

/-- Where send `ack2` goes with a byte (41_send_fsm R162, R163). -/
theorem tSend_ack2_byte (b : Byte) (d : SendState) : (tSend .ack2 (classifyAnswer (.success b))).getD d =
    if b = 0x06 then .done else .retry := by
  rw [classifyAnswer_success]
  split_ifs <;> rfl

/-- Settles O13: the answer read and the table, for each byte, a timeout and an error. -/
theorem sendAnswerIsClassified : Obligations.SendAnswerIsClassified := by
  unfold Obligations.SendAnswerIsClassified
  refine fun s a rest ha => ⟨fun b bs hs hb => ?_, fun hs => ⟨answerWait_timeout ha hs, answerWait_timeout ha hs⟩,
    fun hs => ⟨answerWait_error ha hs, answerWait_error ha hs⟩⟩
  rw [← tSend_ack_byte b s.sState, ← tSend_ack2_byte b s.sState]
  exact ⟨answerWait_byte ha hs hb, answerWait_byte ha hs hb⟩

/-! ### The writes -/

/-- A write of the send engine: the bytes written are the first ones of what was handed over, and anything but full
success leads to `retry` (41_send_fsm R166, R168, R171). -/
theorem sendWrite_eq {next : SendState} {bs : Bytes} (hpass : tSend st .pass = some next)
    (hdeny : tSend st .deny = some .retry) (hfail : tSend st .fail = some .retry) (ha : s.answers = a :: rest) :
    sendWrite st bs s = .next { s with
      answers := rest, devOut := s.devOut ++ bs.take a.count,
      sEvent := (match a.status with
        | .success => if bs.length ≤ a.count then .pass else .fail
        | .timeout => .deny
        | .error => .fail),
      sState := if a.status = .success ∧ bs.length ≤ a.count then next else .retry, sPhase := .start } := by
  have htake : bs.take (min a.count bs.length) = bs.take a.count := by rw [← List.take_take, List.take_length]
  simp only [sendWrite, devWrite, ha, htake, sendEmit]
  cases a.status with
  | success =>
    by_cases hl : bs.length ≤ a.count
    · simp [classifySendWrite, hl, hpass]
    · simp [classifySendWrite, hl, hfail]
  | timeout => simp [classifySendWrite, hdeny]
  | error => simp [classifySendWrite, hfail]

/-- A write of one byte by the send engine. -/
theorem sendWrite_byte {next : SendState} (b : Byte) (hpass : tSend st .pass = some next)
    (hdeny : tSend st .deny = some .retry) (hfail : tSend st .fail = some .retry) (ha : s.answers = a :: rest) :
    sendWrite st [b] s = .next { s with
      answers := rest, devOut := if a.count = 0 then s.devOut else s.devOut ++ [b],
      sEvent := (match a.status with
        | .success => if a.count = 0 then .fail else .pass
        | .timeout => .deny
        | .error => .fail),
      sState := if a.status = .success ∧ a.count ≠ 0 then next else .retry, sPhase := .start } := by
  rw [sendWrite_eq hpass hdeny hfail ha]
  cases hc : a.count with
  | zero => simp
  | succ n => simp

/-- Send `frame` with a frame at the cursor (41_send_fsm R168). -/
theorem execSFrame_eq {f : Frame} (hf : s.txf[s.txCursor.toNat]? = some f) : execSFrame s = sendWrite .frame f s := by
  simp only [execSFrame, hf]

/-- Settles O14: both actions are a write. -/
theorem sendFrameAndNakWrite : Obligations.SendFrameAndNakWrite := by
  unfold Obligations.SendFrameAndNakWrite
  exact fun s a rest ha => ⟨fun f hf => (execSFrame_eq hf).trans (sendWrite_eq rfl rfl rfl ha),
    sendWrite_byte Config.NAK rfl rfl rfl ha⟩

/-! ### Retry -/

/-- Send `retry` below the ceiling: the count and the release (41_send_fsm R170). -/
theorem exec_sRetry_below (hp : s.sPhase.released = false) (h : s.r2.toNat + 1 < 240) :
    exec .sRetry s = .next { s with
      r2 := s.r2 + 1, lockOwner := if s.lockOwner = some .send then none else s.lockOwner, sPhase := .sleep } :=
  (execSRetry_first hp).trans (if_pos (Config.sendRetryLimit_eq.symm ▸ h))

/-- Send `retry` at the ceiling: the count and the failure (41_send_fsm R170). -/
theorem exec_sRetry_ceiling (hp : s.sPhase.released = false) (h : 240 ≤ s.r2.toNat + 1) :
    exec .sRetry s = .next { s with r2 := s.r2 + 1, sEvent := .fail, sState := .error, sPhase := .start } :=
  (execSRetry_first hp).trans (if_neg (Nat.not_lt.mpr (Config.sendRetryLimit_eq.symm ▸ h)))

/-- Send `retry` after the sleep, with no reopen due (41_send_fsm R170). -/
theorem exec_sRetry_slept (hp : s.sPhase = .sleep) (h : s.r2.toNat % 6 ≠ 0) :
    exec .sRetry s = .next { s with sEvent := .pass, sState := .enquiry, sPhase := .start } := by
  simp only [exec, execSRetry, hp, Config.reopenPeriod_eq, if_neg h]
  rfl

/-- Send `retry` after the sleep, with a reopen due (41_send_fsm R170). -/
theorem exec_sRetry_due (hp : s.sPhase = .sleep) (h : s.r2.toNat % 6 = 0) :
    exec .sRetry s = .next { s with sPhase := .close } := by
  simp only [exec, execSRetry, hp, Config.reopenPeriod_eq, if_pos h]
  rfl

/-- Send `retry` closes the device (41_send_fsm R170). -/
theorem exec_sRetry_close (hp : s.sPhase = .close) :
    exec .sRetry s = .next { s with deviceOpen := false, sPhase := .reopen } := by
  simp only [exec, execSRetry, hp]
  rfl

/-- Send `retry` opens the device again (41_send_fsm R170). -/
theorem exec_sRetry_open (hp : s.sPhase = .reopen) (ha : s.answers = a :: rest) :
    exec .sRetry s = .next { s with
      answers := rest, deviceOpen := a.opened, devIn := a.stream, sEvent := .pass, sState := .enquiry,
      sPhase := .start } := by
  simp only [exec, execSRetry, hp, devOpen, ha]
  rfl

/-- Settles O15: one equation for each turn of `retry`. -/
theorem sendRetryCountsReleasesReopens : Obligations.SendRetryCountsReleasesReopens := by
  unfold Obligations.SendRetryCountsReleasesReopens
  have unreleased {s : State} (h : s.sPhase = .start ∨ s.sPhase = .write) : s.sPhase.released = false := by
    obtain h | h := h <;> rw [h] <;> rfl
  exact ⟨fun _ hp => exec_sRetry_below (unreleased hp), fun _ hp => exec_sRetry_ceiling (unreleased hp),
    fun _ => exec_sRetry_slept, fun _ => exec_sRetry_due, fun _ => exec_sRetry_close, fun _ _ _ => exec_sRetry_open⟩

/-! ### Reenquiry -/

/-- A read of the drain of send `reenquiry` that takes a byte (41_send_fsm R166). -/
theorem exec_sReenquiry_byte {b : Byte} {bs : Bytes} (hp : s.sPhase ≠ .write) (ha : s.answers = a :: rest)
    (hs : a.status = .success ∨ s.deviceOpen = true ∧ a.status ≠ .error) (hb : s.devIn = b :: bs) :
    exec .sReenquiry s = .next { s with answers := rest, devIn := bs } := by
  simp only [exec, execSReenquiry_drain hp, drainRead_byte ha hs hb]

/-- The read that ends the drain of send `reenquiry` on an empty stream (41_send_fsm R166). -/
theorem exec_sReenquiry_empty (hp : s.sPhase ≠ .write) (ha : s.answers = a :: rest)
    (hs : a.status = .timeout ∨ s.deviceOpen = true ∧ a.status ≠ .error) (hb : s.devIn = []) :
    exec .sReenquiry s = .next { s with answers := rest, sPhase := .write } := by
  simp only [exec, execSReenquiry_drain hp, drainRead_empty ha hs hb]

/-- The write of send `reenquiry` (41_send_fsm R166). -/
theorem exec_sReenquiry_write (hp : s.sPhase = .write) (ha : s.answers = w :: rest) :
    exec .sReenquiry s = .next { s with
      answers := rest, devOut := if w.count = 0 then s.devOut else s.devOut ++ [0x05],
      sEvent := (match w.status with
        | .success => if w.count = 0 then .fail else .pass
        | .timeout => .deny
        | .error => .fail),
      sState := if w.status = .success ∧ w.count ≠ 0 then .ack else .retry, sPhase := .start } := by
  have hw : execSReenquiry s = sendWrite .reenquiry [Config.ENQ] s := by simp only [execSReenquiry, hp]
  exact hw.trans (sendWrite_byte Config.ENQ rfl rfl rfl ha)

/-- A read of a drain of a closed device that answers success on an empty stream: the byte, if any, is the answer's own
(60_exceptions R332; log 29). -/
theorem drainRead_closed_success (ha : s.answers = a :: rest) (hs : a.status = .success) (ho : s.deviceOpen = false)
    (hb : s.devIn = []) :
    drainRead s = some ((readNow (a.stream.take 1)).1, { s with answers := rest, devIn := [] }) := by
  simp only [drainRead, devRead1, ha, read1, hs, readable, ho, hb, Config.tDrain_eq]
  cases a.stream <;> rfl

/-- A read of the drain of send `reenquiry` on a closed device whose stream is empty: the drain goes on with the
answer's own byte or ends (60_exceptions R332; log 29). -/
theorem exec_sReenquiry_closed (hp : s.sPhase ≠ .write) (ha : s.answers = a :: rest) (hs : a.status = .success)
    (ho : s.deviceOpen = false) (hb : s.devIn = []) :
    exec .sReenquiry s = .next { s with answers := rest, sPhase := if a.stream = [] then .write else s.sPhase } := by
  have hread := drainRead_closed_success ha hs ho hb
  rw [← hb] at hread
  simp only [exec, execSReenquiry_drain hp, hread]
  cases a.stream <;> rfl

/-! ### The drain as a whole -/

/-- A run whose first step is a turn of the send engine. -/
theorem runFor_send {n : Nat} {t : State} {turns : List Turn} (hr : s.sRun = true) (hst : s.sState = st)
    (ht : s.turns = .engine .send :: turns) (he : exec (sendInstr st) { s with turns := turns } = .next t) :
    runFor (n + 1) s = runFor n t :=
  runFor_next ((step_send ht hr hst).trans he)

/-- The reads of a drain that give a byte: as many turns as the stream holds bytes empty it (20_memory R72). -/
theorem runFor_drain (oks : List DevAnswer) (turns : List Turn) (more : List DevAnswer) (hr : s.sRun = true)
    (hst : s.sState = .reenquiry) (hp : s.sPhase ≠ .write)
    (hoks : ∀ x ∈ oks, x.status = .success ∨ s.deviceOpen = true ∧ x.status ≠ .error)
    (hl : oks.length = s.devIn.length) (ha : s.answers = oks ++ more)
    (ht : s.turns = List.replicate oks.length (.engine .send) ++ turns) :
    runFor oks.length s = some { s with turns := turns, answers := more, devIn := [] } := by
  induction oks generalizing s with
  | nil =>
    have hb : s.devIn = [] := List.length_eq_zero_iff.mp hl.symm
    simp only [List.length_nil, List.replicate_zero, List.nil_append] at ha ht ⊢
    rw [runFor_zero, ← ht, ← ha, ← hb]
  | cons x xs ih =>
    cases hb : s.devIn with
    | nil => simp [hb] at hl
    | cons b bs =>
      have hread := exec_sReenquiry_byte (s := { s with turns := List.replicate xs.length (.engine .send) ++ turns })
        hp ha (hoks x (List.mem_cons_self ..)) hb
      rw [List.length_cons, runFor_send hr hst ht hread]
      exact ih hr hst hp (fun y hy => hoks y (List.mem_cons_of_mem _ hy)) (by simpa [hb] using hl) rfl rfl

/-- The whole action of send `reenquiry`: the drain of every byte of the stream, then the write (41_send_fsm R166). -/
theorem runFor_reenquiry (oks : List DevAnswer) (turns : List Turn) (hr : s.sRun = true) (hst : s.sState = .reenquiry)
    (hp : s.sPhase = .start) (hoks : ∀ x ∈ oks, x.status = .success ∨ s.deviceOpen = true ∧ x.status ≠ .error)
    (hl : oks.length = s.devIn.length) (hend : a.status = .timeout ∨ s.deviceOpen = true ∧ a.status ≠ .error)
    (ha : s.answers = oks ++ a :: w :: rest)
    (ht : s.turns = List.replicate (oks.length + 2) (.engine .send) ++ turns) :
    runFor (oks.length + 2) s = some { s with
      turns := turns, answers := rest, devIn := [],
      devOut := if w.count = 0 then s.devOut else s.devOut ++ [0x05],
      sEvent := (match w.status with
        | .success => if w.count = 0 then .fail else .pass
        | .timeout => .deny
        | .error => .fail),
      sState := if w.status = .success ∧ w.count ≠ 0 then .ack else .retry } := by
  have ht' : s.turns = List.replicate oks.length (.engine .send) ++ .engine .send :: .engine .send :: turns := by
    rw [ht, List.replicate_add, List.append_assoc]
    rfl
  rw [runFor_add, runFor_drain oks _ _ hr hst (by simp [hp]) hoks hl ha ht', Option.bind_some]
  have hempty := exec_sReenquiry_empty
    (s := { s with turns := .engine .send :: turns, answers := a :: w :: rest, devIn := [] })
    (by simp [hp]) rfl hend rfl
  refine Eq.trans (runFor_send hr hst rfl hempty) (Eq.trans (runFor_send hr hst rfl (exec_sReenquiry_write rfl rfl)) ?_)
  rw [runFor_zero, hp]

/-- Settles O12: each read and the write by their equations, the whole action as a run. -/
theorem sendReenquiryDrainsThenWritesEnq : Obligations.SendReenquiryDrainsThenWritesEnq := by
  unfold Obligations.SendReenquiryDrainsThenWritesEnq
  refine ⟨fun s a rest hp ha => ⟨fun _ _ => exec_sReenquiry_byte hp ha, exec_sReenquiry_empty hp ha, fun ho hs => ?_,
      fun ho hs => exec_sReenquiry_closed hp ha hs ho, fun hs => ?_⟩,
    fun _ _ _ => exec_sReenquiry_write, fun _ oks _ _ _ turns => runFor_reenquiry oks turns⟩
  · simp only [exec, execSReenquiry_drain hp, drainRead_closed ha hs ho]
  · simp only [exec, execSReenquiry_drain hp, drainRead, devRead1_error ha hs]
    rfl

end Sys2Proof.Machine
end

section
/-! SUPPORT. The contract of the lock: an engine waits until it is granted the lock, and a turn of it while the lock is
free grants it (20_memory R77, 60_exceptions R338). -/

namespace Sys2Proof.Machine

/-- The send engine waits in `enquiry` (41_send_fsm R165). -/
theorem waitsForLock_send {s : State} : waitsForLock .send s = true ↔ s.sRun = true ∧ s.sState = .enquiry := by
  simp [waitsForLock]

/-- The receive engine waits in the second turn of `poll` (42_receive_fsm R206). -/
theorem waitsForLock_recv {s : State} :
    waitsForLock .recv s = true ↔ s.rRun = true ∧ s.rState = .poll ∧ s.rPhase = .lock := by
  simp [waitsForLock, and_assoc]

/-- A move of the send engine in `enquiry` waits or is granted the lock (41_send_fsm R165). -/
theorem SendMove.of_enquiry {s t : State} (h : SendMove s t) (hst : s.sState = .enquiry) :
    t = s ∨ t.lockOwner = some .send := by
  cases h with
  | waits => exact .inl rfl
  | enquiry => exact .inr rfl
  | emits _ _ _ _ _ st plain => rw [← st, hst] at plain; cases plain
  | idle st | drains _ _ _ st | drained _ st | retryRelease st | retryFail st | retryPass st | retryDue st
  | retryClose st | retryOpen _ _ _ st | waitRelease st | waitPass st | doneMore st | doneLast st | error st
  | end_ st =>
    simp [hst] at st

/-- A move of the receive engine in the second turn of `poll` waits or is granted the lock (42_receive_fsm R206). -/
theorem RecvMove.of_poll {s t : State} (h : RecvMove s t) (hst : s.rState = .poll) (hph : s.rPhase = .lock) :
    t = s ∨ t.lockOwner = some .recv := by
  cases h with
  | waits => exact .inl rfl
  | pollPass => exact .inr rfl
  | pollReadable _ _ ph | pollFail _ _ ph => exact absurd hph ph
  | emits _ _ _ _ _ st plain => rw [← st, hst] at plain; simp [recvPlain] at plain
  | idle st | drains _ _ _ st | drained _ st | repoll st | stx _ _ _ st | len _ _ _ st | datacmd _ _ _ st
  | extlenSkip st | extlen _ _ _ st | numberSkip st | number _ _ _ st | dataNone st | data _ _ _ st | etx _ _ _ st
  | cs _ _ _ st | retryPass st | retryFail st | doneMore st | doneLast st | error st | endOk _ st | endFail st =>
    simp [hst] at st

/-- An engine that waits for the lock goes on waiting until it is granted it, whichever turn comes next. -/
theorem step_waits {e : Engine} {s t : State} (h : step s = .next t) (hw : waitsForLock e s = true) :
    waitsForLock e t = true ∨ t.lockOwner = some e := by
  cases e with
  | send =>
    obtain ⟨hr, hst⟩ := waitsForLock_send.mp hw
    cases (step_sides h).1 with
    | keeps eq =>
      obtain ⟨hst', hr', -⟩ := sendRegs_eq_iff.mp eq
      exact .inl (waitsForLock_send.mpr ⟨hr'.trans hr, hst'.trans hst⟩)
    | moves rest _ _ move =>
      obtain rfl | howner := move.of_enquiry hst
      · exact .inl hw
      · exact .inr howner
    | starts _ _ _ free => simp [hr] at free
    | constructs _ free => simp [callInProgress, hr] at free
  | recv =>
    obtain ⟨hr, hst, hph⟩ := waitsForLock_recv.mp hw
    cases (step_sides h).2 with
    | keeps eq =>
      obtain ⟨hst', hr', -, hph', -⟩ := recvRegs_eq_iff.mp eq
      exact .inl (waitsForLock_recv.mpr ⟨hr'.trans hr, hst'.trans hst, hph'.trans hph⟩)
    | moves rest _ _ move =>
      obtain rfl | howner := move.of_poll hst hph
      · exact .inl hw
      · exact .inr howner
    | starts _ free => simp [hr] at free
    | constructs _ free => simp [callInProgress, hr] at free

/-- The second turn of receive `poll` takes a free lock (42_receive_fsm R206). -/
theorem exec_rPoll_granted {s : State} (hph : s.rPhase = .lock) (hfree : s.lockOwner = none) :
    exec .rPoll s = .next (recvEmit .poll .pass { s with lockOwner := some .recv }) := by
  simp only [exec, execRPoll, hph, lockAcquire_free hfree]

/-- A turn of an engine that waits for a free lock grants it. -/
theorem step_grants {e : Engine} {s t : State} {rest : List Turn} (ht : s.turns = .engine e :: rest)
    (hw : waitsForLock e s = true) (hfree : s.lockOwner = none) (h : step s = .next t) : t.lockOwner = some e := by
  cases e with
  | send =>
    obtain ⟨hr, hst⟩ := waitsForLock_send.mp hw
    have hgrant := exec_sEnquiry (s := { s with turns := rest }) (by simp [hfree])
    cases h.symm.trans ((step_send ht hr hst).trans hgrant)
    rfl
  | recv =>
    obtain ⟨hr, hst, hph⟩ := waitsForLock_recv.mp hw
    have hgrant := exec_rPoll_granted (s := { s with turns := rest }) hph hfree
    cases h.symm.trans ((step_recv ht hr hst).trans hgrant)
    rfl

/-- In an endless run an engine that waits for the lock is still waiting, or has been granted it in between. -/
theorem RunsAs.waits {sched : Nat → Turn} {env : Nat → List DevAnswer} {run : Nat → State} (h : RunsAs sched env run)
    {e : Engine} {n : Nat} (hw : waitsForLock e (run n) = true) {k : Nat} (hk : n ≤ k) :
    waitsForLock e (run k) = true ∨ ∃ j, n ≤ j ∧ (run j).lockOwner = some e := by
  induction k, hk using Nat.le_induction with
  | base => exact .inl hw
  | succ k hk ih =>
    obtain hwait | hgranted := ih
    · have hw' : waitsForLock e { run k with turns := [sched k], answers := (run k).answers ++ env k } = true := by
        cases e <;> exact hwait
      obtain hwait' | howner := step_waits (h k) hw'
      · exact .inl hwait'
      · exact .inr ⟨k + 1, Nat.le_succ_of_le hk, howner⟩
    · exact .inr hgranted

/-- A schedule that turns to every engine while the lock is free is fair to the waiters. -/
theorem arbiterFair_of_schedule {sched : Nat → Turn} {env : Nat → List DevAnswer} {run : Nat → State}
    (h : RunsAs sched env run) (hfair : ScheduleFair sched run) : ArbiterFair run := by
  intro e n hw hagain
  obtain ⟨k, hk, hturn, hfree⟩ := hfair e n hagain
  obtain hwait | hgranted := h.waits hw hk
  · have hw' : waitsForLock e { run k with turns := [sched k], answers := (run k).answers ++ env k } = true := by
      cases e <;> exact hwait
    have ht : ({ run k with turns := [sched k], answers := (run k).answers ++ env k } : State).turns =
        .engine e :: [] := congrArg (· :: []) hturn
    exact ⟨k + 1, Nat.le_succ_of_le hk, step_grants ht hw' hfree (h k)⟩
  · exact hgranted

/-- Settles O11: the grant by the equation of `enquiry`, the fairness because a waiter waits until its turn comes while
the lock is free. -/
theorem lockIsTakenAndGranted : Obligations.LockIsTakenAndGranted := by
  unfold Obligations.LockIsTakenAndGranted
  exact ⟨fun _ => exec_sEnquiry, fun _ _ _ => arbiterFair_of_schedule⟩

end Sys2Proof.Machine
end

section
/-! SUPPORT. The moves of the engines against the transition tables: every event that is emitted is one of the state's
own, and the state register takes the table's entry for it (41_send_fsm R161, R176, 42_receive_fsm R201, R225). -/

namespace Sys2Proof.Machine

/-! ### The send engine -/

/-- An event that a send state can emit has an entry in the table, which the state register takes. -/
theorem tSend_sendEmit {st : SendState} {ev : Event} (h : ev ∈ sendCanEmit st) (s : State) :
    tSend st ev = some (sendEmit st ev s).sState := by
  cases st with
  | end_ => simp [sendCanEmit] at h
  | _ => cases ev <;> rfl

/-- The move from `s` to `t` ends an action of the send engine: the event is one that its state can emit, and the
table's entry is taken. -/
def SendEmits (s t : State) : Prop :=
  t.sEvent ∈ sendCanEmit s.sState ∧ tSend s.sState t.sEvent = some t.sState ∧ t.sRun = true ∧ t.sPhase = .start

/-- Taking an event of its own ends the action of the state. -/
theorem sendEmits_of_can {s s' : State} {st : SendState} {ev : Event} (hst : s.sState = st) (hr : s'.sRun = true)
    (h : ev ∈ sendCanEmit st) : SendEmits s (sendEmit st ev s') := by
  subst hst
  exact ⟨h, tSend_sendEmit h s', hr, rfl⟩

/-- All that a move of the send engine does to the state and event registers (41_send_fsm R161, R176). -/
theorem SendMove.follows_table {s t : State} (h : SendMove s t) (hr : s.sRun = true) :
    t = s ∨
    ((s.sState = .reenquiry ∨ s.sState = .retry ∨ s.sState = .wait) ∧ t.sState = s.sState ∧ t.sEvent = s.sEvent ∧
      t.sRun = true) ∨
    (s.sState = .end_ ∧ t.sRun = false) ∨ SendEmits s t := by
  cases h with
  | waits => exact .inl rfl
  | drains _ _ _ st | drained _ st => exact .inr (.inl ⟨.inl st, rfl, rfl, hr⟩)
  | retryRelease st | retryDue st | retryClose st => exact .inr (.inl ⟨.inr (.inl st), rfl, rfl, hr⟩)
  | waitRelease st => exact .inr (.inl ⟨.inr (.inr st), rfl, rfl, hr⟩)
  | end_ st => exact .inr (.inr (.inl ⟨st, rfl⟩))
  | emits _ _ _ _ _ st _ can => exact .inr (.inr (.inr (sendEmits_of_can st hr can)))
  | idle st | enquiry st | retryFail st | retryPass st | retryOpen _ _ _ st | waitPass st | doneMore st | doneLast st
  | error st => exact .inr (.inr (.inr (sendEmits_of_can st hr (by decide))))

/-! ### The receive engine -/

/-- An event that a receive state can emit has an entry in the table, which the state register takes. -/
theorem tRecv_recvEmit {rs : RecvState} {ev : Event} (h : ev ∈ recvCanEmit rs) (s : State) :
    tRecv rs ev = some (recvEmit rs ev s).rState := by
  cases rs with
  | end_ => simp [recvCanEmit] at h
  | _ => cases ev <;> rfl

/-- The move from `s` to `t` ends an action of the receive engine: the event is one that its state can emit, and the
table's entry is taken. -/
def RecvEmits (s t : State) : Prop :=
  t.rEvent ∈ recvCanEmit s.rState ∧ tRecv s.rState t.rEvent = some t.rState ∧ t.rRun = true ∧ t.rPhase = .start

/-- Taking an event of its own ends the action of the state. -/
theorem recvEmits_of_can {s s' : State} {rs : RecvState} {ev : Event} (hst : s.rState = rs) (hr : s'.rRun = true)
    (h : ev ∈ recvCanEmit rs) : RecvEmits s (recvEmit rs ev s') := by
  subst hst
  exact ⟨h, tRecv_recvEmit h s', hr, rfl⟩

/-- The event of an expected byte is `Pass` or `Deny`, which the three states that expect one can emit. -/
theorem classifyExpected_mem {rs : RecvState} (h : rs = .stx ∨ rs = .etx ∨ rs = .cs) (e b : Byte) :
    classifyExpected e b ∈ recvCanEmit rs := by
  unfold classifyExpected
  obtain rfl | rfl | rfl := h <;> split <;> decide

/-- Whatever `len` makes of its byte ends its action (42_receive_fsm R211). -/
theorem recvEmits_lenByte {s s' : State} (hst : s.rState = .len) {b : Byte} (hr : s'.rRun = true) :
    RecvEmits s (lenByte b s') := by
  obtain ⟨-, h⟩ | ⟨-, -, -, h⟩ | h := lenByte_cases b s' <;> rw [h] <;> exact recvEmits_of_can hst hr (by decide)

/-- Whatever `dataextlen` makes of its bytes ends its action (42_receive_fsm R213, R214). -/
theorem recvEmits_extLenBytes {s s' : State} (hst : s.rState = .dataextlen) {bs : Bytes} (hr : s'.rRun = true) :
    RecvEmits s (extLenBytes bs s') := by
  obtain ⟨-, -, -, h⟩ | ⟨-, -, h⟩ | h := extLenBytes_cases bs s' <;> rw [h] <;>
    exact recvEmits_of_can hst hr (by decide)

/-- All that a move of the receive engine does to the state and event registers (42_receive_fsm R201, R225). -/
theorem RecvMove.follows_table {s t : State} (h : RecvMove s t) (hr : s.rRun = true) :
    t = s ∨
    ((s.rState = .poll ∨ s.rState = .enquiry) ∧ t.rState = s.rState ∧ t.rEvent = s.rEvent ∧ t.rRun = true) ∨
    (s.rState = .end_ ∧ t.rRun = false) ∨ RecvEmits s t := by
  cases h with
  | waits => exact .inl rfl
  | pollReadable _ st => exact .inr (.inl ⟨.inl st, rfl, rfl, hr⟩)
  | drains _ _ _ st => exact .inr (.inl ⟨.inr st, rfl, rfl, hr⟩)
  | endOk _ st | endFail st => exact .inr (.inr (.inl ⟨st, rfl⟩))
  | emits _ _ _ _ _ st _ can => exact .inr (.inr (.inr (recvEmits_of_can st hr can)))
  | drained _ st => exact .inr (.inr (.inr (recvEmits_of_can st hr (classifyDrain_mem _))))
  | stx _ _ _ st | etx _ _ _ st | cs _ _ _ st =>
    exact .inr (.inr (.inr (recvEmits_of_can st hr (classifyExpected_mem (by decide) _ _))))
  | len _ _ _ st => exact .inr (.inr (.inr (recvEmits_lenByte st hr)))
  | extlen _ _ _ st => exact .inr (.inr (.inr (recvEmits_extLenBytes st hr)))
  | idle st | pollFail _ st | pollPass st | repoll st | datacmd _ _ _ st | extlenSkip st | numberSkip st
  | number _ _ _ st | dataNone st | data _ _ _ st | retryPass st | retryFail st | doneMore st | doneLast st
  | error st =>
    exact .inr (.inr (.inr (recvEmits_of_can st hr (by decide))))

/-- Settles O52: a turn of a running engine is a move, and every move follows the table. -/
theorem enginesFollowTheirTables : Obligations.EnginesFollowTheirTables := by
  unfold Obligations.EnginesFollowTheirTables
  refine ⟨fun s t rest ht hr h => ?_, fun s t rest ht hr h => ?_⟩
  · obtain ⟨hstop, -⟩ | ⟨-, hm⟩ := step_sendTurn ht h
    · simp [hr] at hstop
    · exact hm.follows_table hr
  · obtain ⟨hstop, -⟩ | ⟨-, hm⟩ := step_recvTurn ht h
    · simp [hr] at hstop
    · exact hm.follows_table hr

end Sys2Proof.Machine
end

section
/-! SUPPORT. The run of a `send` that meets no failure, frame by frame (41_send_fsm R181). -/

namespace Sys2Proof.Machine

variable {s : State} {n : Nat} {turns : List Turn} {answers : List DevAnswer}

/-! ### The parts of an attempt -/

/-- The whole of `reenquiry` when the drain finds `k` stale bytes and ENQ is written (41_send_fsm R166). -/
theorem runFor_enqWritten (k : Nat) (hr : s.sRun = true) (hst : s.sState = .reenquiry) (hp : s.sPhase = .start)
    (hk : k = s.devIn.length)
    (ha : s.answers = List.replicate k (answer .success 0) ++ answer .timeout 0 :: answer .success 1 :: answers)
    (ht : s.turns = List.replicate (k + 2) (.engine .send) ++ turns) :
    runFor (k + 2) s = some { s with
      turns := turns, answers := answers, devIn := [], devOut := s.devOut ++ [0x05], sEvent := .pass,
      sState := .ack } := by
  have hlength : (List.replicate k (answer .success 0)).length = k := List.length_replicate
  have hrun := runFor_reenquiry (turns := turns) (List.replicate k (answer .success 0)) hr hst hp
    (fun x hx => .inl (List.eq_of_mem_replicate hx ▸ rfl)) (hlength.trans hk) (.inl rfl) ha (hlength.symm ▸ ht)
  rw [hlength] at hrun
  exact hrun

/-- The peer's acknowledgement is a wire unit (30_encoding R92). -/
theorem decode_ack : decode (.wire .answer [Config.ACK]) = .ok .ack := rfl

/-- The acknowledgement arrives and is read: the state moves on with `Pass` (41_send_fsm R163, R167, R169). -/
theorem runFor_acknowledged {st next : SendState} (hread : ∀ u, exec (sendInstr st) u = answerWait st u)
    (hpass : tSend st .pass = some next) (hr : s.sRun = true) (hst : s.sState = st) (hp : s.sPhase = .start)
    (hb : s.devIn = []) (ha : s.answers = answer .success 0 :: answers)
    (ht : s.turns = .unit .answer [Config.ACK] :: .engine .send :: turns) :
    runFor (n + 2) s = runFor n { s with turns := turns, answers := answers, sEvent := .pass, sState := next } := by
  have harrive : step s = .next { s with turns := .engine .send :: turns, devIn := [Config.ACK] } := by
    rw [step_unit ht decode_ack]
    simp only [exec, execAck, arrive, hb, List.nil_append]
  refine (runFor_next harrive).trans (Eq.trans
    (runFor_send hr hst rfl ((hread _).trans (answerWait_byte (b := Config.ACK) ha rfl rfl))) ?_)
  simp only [sendEmit, classifyAnswer_success, Config.ACK, if_true, hpass, Option.getD_some, hb, hp]

/-- The frame at the cursor is written whole (41_send_fsm R168). -/
theorem runFor_frameWritten {f : Frame} (hr : s.sRun = true) (hst : s.sState = .frame) (hp : s.sPhase = .start)
    (hf : s.txf[s.txCursor.toNat]? = some f) (ha : s.answers = answer .success f.length :: answers)
    (ht : s.turns = .engine .send :: turns) :
    runFor (n + 1) s = runFor n { s with
      turns := turns, answers := answers, devOut := s.devOut ++ f, sEvent := .pass, sState := .ack2 } := by
  refine Eq.trans (runFor_send hr hst ht
    ((execSFrame_eq (s := { s with turns := turns }) hf).trans (sendWrite_eq rfl rfl rfl ha))) ?_
  simp [answer, hp]

/-- From `reenquiry` to `done` with a peer that acknowledges the enquiry and the frame at the cursor. -/
theorem runFor_frameSent {f : Frame} (hr : s.sRun = true) (hst : s.sState = .reenquiry) (hp : s.sPhase = .start)
    (hb : s.devIn = []) (hf : s.txf[s.txCursor.toNat]? = some f) (ht : s.turns = cleanFrameTurns ++ turns)
    (ha : s.answers = cleanFrameAnswers f ++ answers) :
    runFor 7 s = some { s with
      turns := .engine .send :: turns, answers := answers, devOut := s.devOut ++ 0x05 :: f, sEvent := .pass,
      sState := .done } := by
  have henq := runFor_enqWritten 0 hr hst hp (by rw [hb]; rfl) ha ht
  rw [show 7 = 0 + 2 + 5 from rfl, runFor_add, henq, Option.bind_some]
  refine Eq.trans (runFor_acknowledged (st := .ack) (fun _ => rfl) rfl hr rfl hp rfl rfl rfl) ?_
  refine Eq.trans (runFor_frameWritten hr rfl hp hf rfl rfl) ?_
  refine Eq.trans (runFor_acknowledged (st := .ack2) (fun _ => rfl) rfl hr rfl hp rfl rfl rfl) ?_
  simp [hb]

/-! ### All frames -/

/-- The turn of `done` with a further frame to send (41_send_fsm R173). -/
theorem runFor_doneMore (hr : s.sRun = true) (hst : s.sState = .done) (hp : s.sPhase = .start)
    (hmore : s.txCursor.toNat + 1 < s.txf.length) (ht : s.turns = .engine .send :: turns) :
    runFor (n + 1) s = runFor n { s with
      turns := turns, txCursor := s.txCursor + 1, sEvent := .wait, sState := .reenquiry } := by
  refine Eq.trans (runFor_send hr hst ht ((exec_sDone _).trans (if_pos hmore))) ?_
  rw [← hp]

/-- The turn of `done` after the last frame (41_send_fsm R173). -/
theorem runFor_doneLast (hr : s.sRun = true) (hst : s.sState = .done) (hp : s.sPhase = .start)
    (hlast : s.txf.length ≤ s.txCursor.toNat + 1) (ht : s.turns = .engine .send :: turns) :
    runFor (n + 1) s = runFor n { s with turns := turns, txOk := true, sEvent := .pass, sState := .end_ } := by
  refine Eq.trans (runFor_send hr hst ht ((exec_sDone _).trans (if_neg (Nat.not_lt.mpr hlast)))) ?_
  rw [← hp]

/-- From `reenquiry` to `end` with a peer that acknowledges every enquiry and every frame: the frames from the cursor on
are written in order, each after an ENQ. -/
theorem runFor_framesSent (fs : List Frame) (hne : fs ≠ []) (hr : s.sRun = true) (hst : s.sState = .reenquiry)
    (hp : s.sPhase = .start) (hb : s.devIn = []) (hfs : s.txf.drop s.txCursor.toNat = fs) (hmax : s.txf.length ≤ 65535)
    (ht : s.turns = fs.flatMap (fun _ => cleanFrameTurns) ++ turns)
    (ha : s.answers = fs.flatMap cleanFrameAnswers ++ answers) :
    ∃ c, runFor (8 * fs.length) s = some { s with
      turns := turns, answers := answers, devOut := s.devOut ++ fs.flatMap (fun f => 0x05 :: f), txCursor := c,
      txOk := true, sEvent := .pass, sState := .end_ } := by
  induction fs generalizing s with
  | nil => exact absurd rfl hne
  | cons f rest ih =>
    have hf : s.txf[s.txCursor.toNat]? = some f := by rw [← List.head?_drop, hfs, List.head?_cons]
    have hlength : s.txf.length = s.txCursor.toNat + (rest.length + 1) := by
      have h := congrArg List.length hfs
      rw [List.length_drop, List.length_cons] at h
      omega
    have hsent := runFor_frameSent hr hst hp hb hf
      (ht.trans (by rw [List.flatMap_cons, List.append_assoc]))
      (ha.trans (by rw [List.flatMap_cons, List.append_assoc]))
    rw [List.length_cons, show 8 * (rest.length + 1) = 7 + (8 * rest.length + 1) by omega, runFor_add, hsent,
      Option.bind_some]
    cases rest with
    | nil =>
      refine ⟨s.txCursor, Eq.trans (runFor_doneLast hr rfl hp (by simpa using hlength.le) rfl) ?_⟩
      simp
    | cons g rest =>
      have hmore : s.txCursor.toNat + 1 < s.txf.length := by rw [hlength, List.length_cons]; omega
      have hcursor := cursor_succ_toNat hmore hmax
      obtain ⟨c, hrun⟩ := ih (s := { s with
          turns := (g :: rest).flatMap (fun _ => cleanFrameTurns) ++ turns,
          answers := (g :: rest).flatMap cleanFrameAnswers ++ answers, devOut := s.devOut ++ 0x05 :: f,
          txCursor := s.txCursor + 1, sEvent := .wait, sState := .reenquiry })
        (List.cons_ne_nil g rest) hr rfl hp hb (by rw [hcursor, ← List.tail_drop, hfs, List.tail_cons]) hmax rfl rfl
      refine ⟨c, Eq.trans (runFor_doneMore hr rfl hp hmore rfl) (hrun.trans ?_)⟩
      simp

/-! ### The call -/

/-- A `send` that the host asks for starts, with the frames of its payload (43_orchestrator R262). -/
theorem execSend_starts {p : Bytes} {fs : List Frame} (hc : s.constructed = true) (hr : s.sRun = false)
    (hmin : 3 ≤ p.length) (hmax : p.length ≤ Config.maxPayload) (hfs : buildFrames p = some fs) :
    execSend p s = .next (startSend p fs s) := by
  have hsize : ¬ (p.length < Config.hdr ∨ Config.maxPayload < p.length) := by rw [Config.hdr_eq]; omega
  simp only [execSend, hc, if_true, if_neg hsize, hfs, hr, Bool.false_eq_true, if_false]

/-- From the host's request to `reenquiry`, with the lock free: the call starts, `r2` is reset and the lock is taken. -/
theorem runFor_sendStarted {p : Bytes} {fs : List Frame} (hc : s.constructed = true) (hr : s.sRun = false)
    (ho : s.lockOwner = none) (hmin : 3 ≤ p.length) (hmax : p.length ≤ Config.maxPayload)
    (hfs : buildFrames p = some fs)
    (ht : s.turns = .host (.send p) :: .engine .send :: .engine .send :: turns) :
    runFor 3 s = some { startSend p fs s with
      turns := turns, r2 := 0, lockOwner := some .send, sEvent := .pass, sState := .reenquiry } := by
  have hstart := (step_host ht).trans (execSend_starts
    (s := { s with turns := .engine .send :: .engine .send :: turns }) hc hr hmin hmax hfs)
  refine (runFor_next hstart).trans (Eq.trans (runFor_send rfl rfl rfl (exec_sIdle _)) ?_)
  refine Eq.trans (runFor_send rfl rfl rfl (exec_sEnquiry ?_)) rfl
  simp [ho]

/-- From `end` on: the lock is released, the call ends and the host collects its result. -/
theorem runFor_sendCollected (hr : s.sRun = true) (hst : s.sState = .end_) (ho : s.lockOwner = some .send)
    (hret : s.returns = []) (ht : s.turns = .engine .send :: .collect 0 :: turns) :
    runFor 2 s = some { endSend s with
      turns := turns, lockOwner := none, hostOut := s.hostOut ++ [.sendResult s.txOk] } := by
  refine Eq.trans (runFor_send hr hst ht rfl) (Eq.trans (runFor_next (step_collect rfl)) ?_)
  simp [collect, callReturns, respond, endSend, lockRelease, ho, hret]

/-- Settles O57: the call starts, the frames are sent one after the other, and the call ends. -/
theorem cleanSendSucceeds : Obligations.CleanSendSucceeds := by
  unfold Obligations.CleanSendSucceeds
  intro s p fs turns answers hc hr ho hb hret hmin hmax hfs ht ha
  obtain ⟨hne, hcount, -⟩ := buildFrames_sendable (by simpa using hmin) hmax hfs
  obtain ⟨c, hrun⟩ := runFor_framesSent (turns := .engine .send :: .collect 0 :: turns) (answers := answers)
    (s := { startSend p fs s with
      turns := fs.flatMap (fun _ => cleanFrameTurns) ++ .engine .send :: .collect 0 :: turns, r2 := 0,
      lockOwner := some .send, sEvent := .pass, sState := .reenquiry })
    fs hne rfl rfl rfl hb rfl hcount rfl ha
  rw [show 5 + 8 * fs.length = 3 + (8 * fs.length + 2) by omega, runFor_add,
    runFor_sendStarted hc hr ho hmin hmax hfs ht, Option.bind_some, runFor_add, hrun, Option.bind_some]
  exact ⟨_, runFor_sendCollected rfl rfl rfl hret rfl, rfl, rfl, rfl, hb, rfl, rfl, rfl, rfl, hret, rfl⟩

end Sys2Proof.Machine
end

section
/-! SUPPORT. The run of a `send` to a peer that never answers, attempt by attempt (41_send_fsm R170, R178,
70_reset_and_hazards R377). -/

namespace Sys2Proof.Machine

variable {s : State} {n : Nat} {turns : List Turn} {answers : List DevAnswer} {opens : Nat → DevAnswer}

/-! ### One attempt -/

/-- The turn of `idle` (41_send_fsm R164). -/
theorem runFor_idle (hr : s.sRun = true) (hst : s.sState = .idle) (hp : s.sPhase = .start)
    (ht : s.turns = .engine .send :: turns) :
    runFor (n + 1) s = runFor n { s with turns := turns, r2 := 0, sEvent := .pass, sState := .enquiry } := by
  refine Eq.trans (runFor_send hr hst ht (exec_sIdle _)) ?_
  rw [← hp]

/-- From `enquiry` to `retry`: the lock is taken, the `k` stale bytes are drained, ENQ is written and no answer
comes. -/
theorem runFor_unanswered (k : Nat) (hr : s.sRun = true) (hst : s.sState = .enquiry) (hp : s.sPhase = .start)
    (ho : s.lockOwner = none) (hk : k = s.devIn.length)
    (ha : s.answers =
      List.replicate k (answer .success 0) ++ answer .timeout 0 :: answer .success 1 :: answer .timeout 0 :: answers)
    (ht : s.turns = List.replicate (k + 4) (.engine .send) ++ turns) :
    runFor (k + 4) s = some { s with
      turns := turns, answers := answers, devIn := [], devOut := s.devOut ++ [0x05], lockOwner := some .send,
      sEvent := .deny, sState := .retry } := by
  have ht' : s.turns = .engine .send :: (List.replicate (k + 2) (.engine .send) ++ .engine .send :: turns) := by
    rw [ht, List.replicate_succ, List.replicate_succ' (n := k + 2), List.cons_append, List.append_assoc]
    rfl
  have henq := runFor_enqWritten (turns := .engine .send :: turns) (answers := answer .timeout 0 :: answers)
    (s := { s with
      turns := List.replicate (k + 2) (.engine .send) ++ .engine .send :: turns, lockOwner := some .send,
      sEvent := .pass, sState := .reenquiry }) k hr rfl hp hk ha rfl
  refine Eq.trans (runFor_send hr hst ht' (exec_sEnquiry (by simp [ho]))) ?_
  rw [← hp, show k + 3 = k + 2 + 1 from rfl, runFor_add, henq, Option.bind_some]
  refine Eq.trans (runFor_send hr rfl rfl (answerWait_timeout (st := .ack) rfl rfl)) ?_
  simp [sendEmit, tSend, hp]

/-- `retry` below the ceiling when no reopen is due: the count, the release and the sleep. -/
theorem runFor_retried (hr : s.sRun = true) (hst : s.sState = .retry) (hp : s.sPhase = .start)
    (ho : s.lockOwner = some .send) (h2 : (s.r2 + 1).toNat = s.r2.toNat + 1) (hlt : s.r2.toNat + 1 < 240)
    (hdue : (s.r2.toNat + 1) % 6 ≠ 0) (ht : s.turns = .engine .send :: .engine .send :: turns) :
    runFor 2 s = some { s with
      turns := turns, r2 := s.r2 + 1, lockOwner := none, sEvent := .pass, sState := .enquiry } := by
  refine Eq.trans (runFor_send hr hst ht (exec_sRetry_below (by simp [hp, SendPhase.released]) hlt)) ?_
  refine Eq.trans (runFor_send hr hst rfl (exec_sRetry_slept rfl (by simpa only [h2] using hdue))) ?_
  simp [ho, hp]

/-- `retry` below the ceiling when a reopen is due: the count, the release, the sleep, the close and the open. -/
theorem runFor_reopened {o : DevAnswer} (hr : s.sRun = true) (hst : s.sState = .retry) (hp : s.sPhase = .start)
    (ho : s.lockOwner = some .send) (h2 : (s.r2 + 1).toNat = s.r2.toNat + 1) (hlt : s.r2.toNat + 1 < 240)
    (hdue : (s.r2.toNat + 1) % 6 = 0) (ha : s.answers = o :: answers)
    (ht : s.turns = .engine .send :: .engine .send :: .engine .send :: .engine .send :: turns) :
    runFor 4 s = some { s with
      turns := turns, answers := answers, r2 := s.r2 + 1, lockOwner := none, deviceOpen := o.opened, devIn := o.stream,
      sEvent := .pass, sState := .enquiry } := by
  refine Eq.trans (runFor_send hr hst ht (exec_sRetry_below (by simp [hp, SendPhase.released]) hlt)) ?_
  refine Eq.trans (runFor_send hr hst rfl (exec_sRetry_due rfl (by simpa only [h2] using hdue))) ?_
  refine Eq.trans (runFor_send hr hst rfl (exec_sRetry_close rfl)) ?_
  refine Eq.trans (runFor_send hr hst rfl (exec_sRetry_open rfl ha)) ?_
  simp [ho, hp]

/-- The last attempt's end: `retry` at the ceiling, `error` and `end`. -/
theorem runFor_givenUp (hr : s.sRun = true) (hst : s.sState = .retry) (hp : s.sPhase = .start)
    (ho : s.lockOwner = some .send) (hge : 240 ≤ s.r2.toNat + 1)
    (ht : s.turns = .engine .send :: .engine .send :: .engine .send :: turns) :
    runFor 3 s = some { endSend s with
      turns := turns, r2 := s.r2 + 1, lockOwner := none, txOk := false,
      returns := s.returns ++ [.sendResult false] } := by
  refine Eq.trans (runFor_send hr hst ht (exec_sRetry_ceiling (by simp [hp, SendPhase.released]) hge)) ?_
  refine Eq.trans (runFor_send hr rfl rfl (exec_sError _)) (Eq.trans (runFor_send hr rfl rfl rfl) ?_)
  simp [callReturns, endSend, lockRelease, ho]

/-! ### All attempts -/

/-- The call that began in `s` after `k` failed attempts: the `t` in which the next one begins, with the turns and the
answers to come. -/
structure AfterAttempts (s : State) (opens : Nat → DevAnswer) (k : Nat) (turns : List Turn) (answers : List DevAnswer)
    (t : State) : Prop where
  run : t.sRun = true
  state : t.sState = .enquiry
  phase : t.sPhase = .start
  lock : t.lockOwner = none
  r2 : t.r2.toNat = k
  stale : staleBytes s.devIn opens k = t.devIn.length
  out : t.devOut = s.devOut ++ List.replicate k 0x05
  returns : t.returns = s.returns
  turns : t.turns = turns
  answers : t.answers = answers

/-- The ENQ of one attempt more. -/
theorem AfterAttempts.out_succ {k : Nat} {t : State} (h : AfterAttempts s opens k turns answers t) :
    t.devOut ++ [0x05] = s.devOut ++ List.replicate (k + 1) 0x05 := by
  rw [h.out, List.append_assoc, List.replicate_succ']

/-- The count of one attempt more. -/
theorem AfterAttempts.r2_succ {k : Nat} {t : State} (h : AfterAttempts s opens k turns answers t) (hk : k < 240) :
    (t.r2 + 1).toNat = k + 1 := by
  rw [BitVec.toNat_add, h.r2]
  exact Nat.mod_eq_of_lt (show k + 1 < 256 by omega)

/-- Turns of attempt number `k + 1` when it is below the ceiling. -/
def attemptTurns (inp : Bytes) (opens : Nat → DevAnswer) (k : Nat) : Nat :=
  staleBytes inp opens k + 4 + if (k + 1) % 6 = 0 then 4 else 2

/-- A failed attempt below the ceiling, with or without a reopen. -/
theorem runFor_attempt {k : Nat} {t : State} (hk : k + 1 < 240)
    (h : AfterAttempts s opens k (List.replicate (attemptTurns s.devIn opens k) (.engine .send) ++ turns)
      (silentAttempt (staleBytes s.devIn opens k) (k + 1) (opens k) ++ answers) t) :
    ∃ u, runFor (attemptTurns s.devIn opens k) t = some u ∧ AfterAttempts s opens (k + 1) turns answers u := by
  have hr2 := h.r2_succ (by omega)
  have ht := h.turns
  have ha := h.answers
  by_cases hdue : (k + 1) % 6 = 0
  · have hturns : attemptTurns s.devIn opens k = staleBytes s.devIn opens k + 4 + 4 := by rw [attemptTurns, if_pos hdue]
    rw [hturns, List.replicate_add, List.append_assoc] at ht
    simp only [silentAttempt, Config.reopenPeriod_eq, Config.sendRetryLimit_eq, hdue, hk, and_self, if_true,
      List.append_assoc] at ha
    rw [hturns, runFor_add, runFor_unanswered _ h.run h.state h.phase h.lock h.stale ha ht, Option.bind_some]
    refine ⟨_, runFor_reopened h.run rfl h.phase rfl (by rw [hr2, h.r2]) (by rw [h.r2]; exact hk)
      (by rw [h.r2]; exact hdue) rfl rfl, ⟨h.run, rfl, h.phase, rfl, hr2, ?_, h.out_succ, h.returns, rfl, rfl⟩⟩
    simp [staleBytes, hdue]
  · have hturns : attemptTurns s.devIn opens k = staleBytes s.devIn opens k + 4 + 2 := by rw [attemptTurns, if_neg hdue]
    rw [hturns, List.replicate_add, List.append_assoc] at ht
    simp only [silentAttempt, Config.reopenPeriod_eq, hdue, false_and, if_false, List.append_assoc] at ha
    rw [hturns, runFor_add, runFor_unanswered _ h.run h.state h.phase h.lock h.stale ha ht, Option.bind_some]
    refine ⟨_, runFor_retried h.run rfl h.phase rfl (by rw [hr2, h.r2]) (by rw [h.r2]; exact hk)
      (by rw [h.r2]; exact hdue) rfl, ⟨h.run, rfl, h.phase, rfl, hr2, ?_, h.out_succ, h.returns, rfl, rfl⟩⟩
    simp [staleBytes, hdue]

/-- The turns of the first `m` attempts. -/
def attemptsTurns (inp : Bytes) (opens : Nat → DevAnswer) (m : Nat) : Nat :=
  ((List.range m).map (staleBytes inp opens)).sum + 6 * m + 2 * (m / 6)

/-- One attempt more. -/
theorem attemptsTurns_succ (inp : Bytes) (opens : Nat → DevAnswer) (m : Nat) :
    attemptsTurns inp opens (m + 1) = attemptsTurns inp opens m + attemptTurns inp opens m := by
  simp only [attemptsTurns, attemptTurns, List.range_succ, List.map_append, List.sum_append, List.map_cons,
    List.map_nil, List.sum_cons, List.sum_nil]
  split <;> omega

/-- The first `m` attempts, all below the ceiling. -/
theorem runFor_attempts (m : Nat) (hm : m < 240) {t : State}
    (h : AfterAttempts s opens 0 (List.replicate (attemptsTurns s.devIn opens m) (.engine .send) ++ turns)
      ((List.range m).flatMap (fun k => silentAttempt (staleBytes s.devIn opens k) (k + 1) (opens k)) ++ answers) t) :
    ∃ u, runFor (attemptsTurns s.devIn opens m) t = some u ∧ AfterAttempts s opens m turns answers u := by
  induction m generalizing turns answers with
  | zero => exact ⟨t, rfl, h⟩
  | succ m ih =>
    rw [attemptsTurns_succ, List.replicate_add, List.append_assoc, List.range_succ, List.flatMap_append,
      List.append_assoc, List.flatMap_singleton] at h
    obtain ⟨u, hrun, hu⟩ := ih (by omega) h
    obtain ⟨v, hrun', hv⟩ := runFor_attempt hm hu
    exact ⟨v, by rw [attemptsTurns_succ, runFor_add, hrun, Option.bind_some, hrun'], hv⟩

/-- The whole run takes the turns of 239 attempts, those of the last one, and those of `idle`, `error` and `end`. -/
theorem silent_turns (inp : Bytes) (opens : Nat → DevAnswer) :
    1520 + staleTotal inp opens = attemptsTurns inp opens 239 + (staleBytes inp opens 239 + 4 + 3) + 1 := by
  have htotal : staleTotal inp opens =
      ((List.range 239).map (staleBytes inp opens)).sum + staleBytes inp opens 239 := by
    rw [staleTotal, Config.sendRetryLimit_eq, List.range_succ, List.map_append, List.sum_append]
    simp
  rw [htotal, attemptsTurns]
  omega

/-- Settles O58: 239 attempts below the ceiling, and the last one, which gives up. -/
theorem silentDeviceFailsAfter240Attempts : Obligations.SilentDeviceFailsAfter240Attempts := by
  unfold Obligations.SilentDeviceFailsAfter240Attempts
  intro s opens turns answers hr hst hp ho ht ha
  rw [silent_turns, List.replicate_succ, List.replicate_add, List.cons_append, List.append_assoc] at ht
  rw [List.range_succ, List.flatMap_append, List.flatMap_singleton, List.append_assoc] at ha
  obtain ⟨u, hrun, hu⟩ := runFor_attempts 239 (by decide) (s := s) (opens := opens) (t := { s with
    turns := List.replicate (attemptsTurns s.devIn opens 239) (.engine .send) ++
      (List.replicate (staleBytes s.devIn opens 239 + 4 + 3) (.engine .send) ++ turns),
    r2 := 0, sEvent := .pass, sState := .enquiry })
    ⟨hr, rfl, hp, ho, rfl, rfl, (List.append_nil _).symm, rfl, rfl, ha⟩
  have hturns := hu.turns
  rw [List.replicate_add, List.append_assoc] at hturns
  have hlast := runFor_unanswered _ hu.run hu.state hu.phase hu.lock hu.stale hu.answers hturns
  have hr2 : u.r2 + 1 = 240 := BitVec.eq_of_toNat_eq (hu.r2_succ (by decide))
  rw [silent_turns, runFor_idle hr hst hp ht, runFor_add, hrun, Option.bind_some, runFor_add, hlast, Option.bind_some]
  exact ⟨_, runFor_givenUp hu.run rfl hu.phase rfl (by rw [hu.r2]) rfl, rfl, rfl, rfl, hu.out_succ, hr2, rfl, rfl, rfl,
    congrArg (· ++ _) hu.returns⟩

end Sys2Proof.Machine
end

section
/-! SUPPORT. The actions of the receive states as equations of the next state (42_receive_fsm R202 to R223). -/

namespace Sys2Proof.Machine

variable {s : State} {st next : RecvState} {a : DevAnswer} {rest : List DevAnswer} {b : Byte} {bs more : Bytes}
  {n : Nat}

/-- Settles O51: each cell is an entry of the definition. -/
theorem recvTransitionTable : Obligations.RecvTransitionTable := by
  unfold Obligations.RecvTransitionTable
  exact ⟨rfl, rfl, rfl, rfl, rfl, rfl, rfl, rfl, rfl, rfl, rfl, rfl, rfl, rfl, rfl, rfl, rfl, rfl, rfl⟩

/-! ### The states without a read or a write -/

/-- Receive `idle` (42_receive_fsm R205). -/
theorem exec_rIdle (s : State) :
    exec .rIdle s = .next { s with r1 := 0, rEvent := .pass, rState := .poll, rPhase := .start } := rfl

/-- Receive `error` (42_receive_fsm R223). -/
theorem exec_rError (s : State) :
    exec .rError s = .next { s with rxOk := false, rEvent := .pass, rState := .end_, rPhase := .start } := rfl

/-- Settles O18: both actions by definition. -/
theorem recvIdleAndError : Obligations.RecvIdleAndError := by
  unfold Obligations.RecvIdleAndError
  exact ⟨exec_rIdle, exec_rError⟩

/-- A poll takes its answer's status and nothing else (60_exceptions R336). -/
theorem devPoll_eq {t : Config.Deadline} (ha : s.answers = a :: rest) :
    devPoll t s = some (a.status, { s with answers := rest }) := by
  simp only [devPoll, ha]

/-- Receive `poll` finds the device readable (42_receive_fsm R206). -/
theorem exec_rPoll_readable (hp : s.rPhase ≠ .lock) (ha : s.answers = a :: rest) (hs : a.status = .success) :
    exec .rPoll s = .next { s with answers := rest, rPhase := .lock } := by
  simp only [exec, execRPoll_first hp, devPoll_eq ha, hs]

/-- Receive `poll` gets any other answer (42_receive_fsm R206). -/
theorem exec_rPoll_fails (hp : s.rPhase ≠ .lock) (ha : s.answers = a :: rest) (hs : a.status ≠ .success) :
    exec .rPoll s = .next { s with answers := rest, rEvent := .fail, rState := .error, rPhase := .start } := by
  rw [exec, execRPoll_first hp, devPoll_eq ha]
  cases h : a.status with
  | success => exact absurd h hs
  | timeout => rfl
  | error => rfl

/-- The receive engine is granted a lock that the send engine does not own (10_state R40). -/
theorem lockAcquire_recv (h : s.lockOwner ≠ some .send) :
    lockAcquire .recv s = some { s with lockOwner := some .recv } := by
  cases hl : lockAcquire .recv s with
  | some s' => rw [(lockAcquire_cases hl).2]
  | none =>
    obtain ⟨_ | _, hne, ho⟩ := lockAcquire_waits hl
    · exact absurd ho h
    · exact absurd rfl hne

/-- Receive `poll` takes a lock that the send engine does not own (42_receive_fsm R206). -/
theorem exec_rPoll_locks (hp : s.rPhase = .lock) (h : s.lockOwner ≠ some .send) :
    exec .rPoll s = .next { s with
      lockOwner := some .recv, rEvent := .pass, rState := .enquiry, rPhase := .start } := by
  simp only [exec, execRPoll, hp, lockAcquire_recv h]
  rfl

/-- Settles O19: the two turns of `poll`, and `repoll` by definition. -/
theorem recvPollAndRepoll : Obligations.RecvPollAndRepoll := by
  unfold Obligations.RecvPollAndRepoll
  exact ⟨fun _ _ _ hp ha => ⟨exec_rPoll_readable hp ha, exec_rPoll_fails hp ha⟩, fun _ => exec_rPoll_locks,
    fun _ => rfl⟩

/-- Receive `retry`: the count and the emptied buffer, then the ceiling (42_receive_fsm R221). -/
theorem exec_rRetry (hne : s.rxf ≠ []) : exec .rRetry s = .next { s with
    r1 := s.r1 + 1, rxf := s.rxf.dropLast ++ [[]], rxShape := .none,
    rEvent := if s.r1.toNat + 1 < 5 then .pass else .fail,
    rState := if s.r1.toNat + 1 < 5 then .repoll else .error, rPhase := .start } := by
  simp only [exec, execRRetry, if_neg hne, Config.recvRetryLimit_eq]
  by_cases hlt : s.r1.toNat + 1 < 5
  · simp only [if_pos hlt]
    rfl
  · simp only [if_neg hlt]
    rfl

/-- The last-frame test of receive `done` (42_receive_fsm R222). -/
theorem moreDivided_iff :
    s.moreDivided = true ↔ s.rxShape = .divided ∧ s.rxFrameNo.toNat + 1 ≠ s.rxFrameCnt.toNat := by
  rw [State.moreDivided, Bool.and_eq_true, decide_eq_true_iff, decide_eq_true_iff]

/-- Receive `done`: the last-frame test decides between the two cases (42_receive_fsm R222). -/
theorem exec_rDone (s : State) : exec .rDone s =
    if s.rxShape = .divided ∧ s.rxFrameNo.toNat + 1 ≠ s.rxFrameCnt.toNat then
      .next { s with rxf := s.rxf ++ [[]], rxShape := .none, rEvent := .wait, rState := .enquiry, rPhase := .start }
    else .next { s with rxOk := true, rEvent := .pass, rState := .end_, rPhase := .start } := by
  simp only [exec, execRDone, moreDivided_iff]
  rfl

/-- Settles O28: the equations of `retry` and `done`. -/
theorem recvRetryAndDone : Obligations.RecvRetryAndDone := by
  unfold Obligations.RecvRetryAndDone
  exact ⟨fun _ => exec_rRetry, exec_rDone⟩

/-! ### The writes -/

/-- The event of a write of one byte by the receive engine (42_receive_fsm R209, R219, R220). -/
theorem classifyRecvWrite_one (status : DevStatus) (k : Nat) :
    classifyRecvWrite 1 (status, min k 1) = if status = .success ∧ k ≠ 0 then .pass else .fail := by
  cases status with
  | success => cases k <;> simp [classifyRecvWrite]
  | timeout => simp [classifyRecvWrite]
  | error => simp [classifyRecvWrite]

/-- A write of one byte by the receive engine: anything but full success leads to `error` (42_receive_fsm R209, R219,
R220). -/
theorem recvWrite_eq (b : Byte) (hpass : tRecv st .pass = some next) (hfail : tRecv st .fail = some .error)
    (ha : s.answers = a :: rest) :
    recvWrite st b s = .next { s with
      answers := rest, devOut := if a.count = 0 then s.devOut else s.devOut ++ [b],
      rEvent := if a.status = .success ∧ a.count ≠ 0 then .pass else .fail,
      rState := if a.status = .success ∧ a.count ≠ 0 then next else .error, rPhase := .start } := by
  have hout : s.devOut ++ [b].take (min a.count 1) = if a.count = 0 then s.devOut else s.devOut ++ [b] := by
    cases a.count <;> simp
  simp only [recvWrite, devWrite, ha, List.length_singleton, classifyRecvWrite_one, hout, recvEmit]
  by_cases hok : a.status = .success ∧ a.count ≠ 0
  · simp only [if_pos hok, hpass, Option.getD_some]
  · simp only [if_neg hok, hfail, Option.getD_some]

/-- Settles O21: the three actions are a write. -/
theorem recvAckAck2NakWrite : Obligations.RecvAckAck2NakWrite := by
  unfold Obligations.RecvAckAck2NakWrite
  exact fun _ _ _ ha => ⟨recvWrite_eq Config.ACK rfl rfl ha, recvWrite_eq Config.ACK rfl rfl ha,
    recvWrite_eq Config.NAK rfl rfl ha⟩

/-! ### The field reads -/

/-- A field of one byte that is read: the byte is appended and handed on (42_receive_fsm R204). -/
theorem field1_byte {k : Byte → State → State} (ha : s.answers = a :: rest) (hs : a.status = .success)
    (hne : s.rxf ≠ []) (hb : s.devIn = b :: bs) :
    field1 st k s = .next (k b (rxAppend [b] { s with answers := rest, devIn := bs })) := by
  simp only [field1, if_neg hne, devRead1_byte ha hs hb]

/-- A field of several bytes that is read: the bytes are appended and handed on (42_receive_fsm R204). -/
theorem fieldN_bytes {k : Bytes → State → State} (ha : s.answers = a :: rest) (hs : a.status = .success)
    (hne : s.rxf ≠ []) (hb : s.devIn = bs ++ more) (hn : bs.length = n) :
    fieldN st n k s = .next (k bs (rxAppend bs { s with answers := rest, devIn := more })) := by
  have hread := devReadN_bytes (n := n) (t := Config.tField) ha hs (by simp [hb]; omega)
  rw [hb, List.take_left' hn, List.drop_left' hn] at hread
  simp only [fieldN, if_neg hne, hread]

/-- A one-byte read with a positive deadline that gives no byte: it takes none, unless it met an error, after which
nothing is known of the stream (60_exceptions R333). -/
theorem devRead1_fails {t : Config.Deadline} (ht : t ≠ some 0) (ha : s.answers = a :: rest)
    (hs : a.status ≠ .success) :
    ∃ r inp, (a.status = .timeout → inp = s.devIn) ∧ (r = .timeout ∨ r = .error) ∧
      devRead1 t s = some (r, { s with answers := rest, devIn := inp }) := by
  cases h : a.status with
  | success => exact absurd h hs
  | timeout => exact ⟨.timeout, s.devIn, fun _ => rfl, .inl rfl, devRead1_timeout ha h ht⟩
  | error => exact ⟨.error, a.stream, nofun, .inr rfl, devRead1_error ha h⟩

/-- A read of several bytes that gives none: a timeout may lose the oldest ones (93_implementation_defined U7). -/
theorem devReadN_fails (n : Nat) (t : Config.Deadline) (ha : s.answers = a :: rest) (hs : a.status ≠ .success) :
    ∃ r inp, (a.status = .timeout → inp <:+ s.devIn) ∧ (r = .timeout ∨ r = .error) ∧
      devReadN n t s = some (r, { s with answers := rest, devIn := inp }) := by
  cases h : a.status with
  | success => exact absurd h hs
  | timeout =>
    exact ⟨.timeout, s.devIn.drop a.count, fun _ => List.drop_suffix .., .inl rfl, by simp only [devReadN, ha, h]⟩
  | error => exact ⟨.error, a.stream, nofun, .inr rfl, by simp only [devReadN, ha, h]⟩

/-- A field of one byte that is not read: whatever state it belongs to, the action ends with `Fail` and the device
leaves the same stream (42_receive_fsm R204). -/
theorem field1_fails (ha : s.answers = a :: rest) (hs : a.status ≠ .success) (hne : s.rxf ≠ []) :
    ∃ inp, (a.status = .timeout → inp = s.devIn) ∧ ∀ (st : RecvState) (k : Byte → State → State),
      field1 st k s = .next (recvEmit st .fail { s with answers := rest, devIn := inp }) := by
  obtain ⟨r, inp, hinp, hr, hread⟩ := devRead1_fails (t := Config.tField) (by simp) ha hs
  refine ⟨inp, hinp, fun st k => ?_⟩
  obtain rfl | rfl := hr
  · simp only [field1, if_neg hne, hread]
  · simp only [field1, if_neg hne, hread]

/-- A field of several bytes that is not read ends the action with `Fail` (42_receive_fsm R204). -/
theorem fieldN_fails (st : RecvState) (n : Nat) (k : Bytes → State → State) (ha : s.answers = a :: rest)
    (hs : a.status ≠ .success) (hne : s.rxf ≠ []) :
    ∃ inp, (a.status = .timeout → inp <:+ s.devIn) ∧
      fieldN st n k s = .next (recvEmit st .fail { s with answers := rest, devIn := inp }) := by
  obtain ⟨r, inp, hinp, hr, hread⟩ := devReadN_fails n Config.tField ha hs
  refine ⟨inp, hinp, ?_⟩
  obtain rfl | rfl := hr
  · simp only [fieldN, if_neg hne, hread]
  · simp only [fieldN, if_neg hne, hread]

/-! ### The delimiters and the checksum byte -/

/-- A state that expects one byte goes on with that byte and to `nak` with any other (42_receive_fsm R210, R217,
R218). -/
theorem recvEmit_expected (e b : Byte) (s : State) (hpass : tRecv st .pass = some next)
    (hdeny : tRecv st .deny = some .nak) :
    recvEmit st (classifyExpected e b) s = { s with
      rEvent := if b = e then .pass else .deny, rState := if b = e then next else .nak, rPhase := .start } := by
  obtain ⟨hb, he⟩ | ⟨hb, he⟩ := classifyExpected_cases e b
  · simp only [recvEmit, he, if_pos hb, hpass, Option.getD_some]
  · simp only [recvEmit, he, if_neg hb, hdeny, Option.getD_some]

/-- Receive `stx` with a byte (42_receive_fsm R210). -/
theorem exec_rStx_byte (ha : s.answers = a :: rest) (hs : a.status = .success) (hne : s.rxf ≠ [])
    (hb : s.devIn = b :: bs) :
    exec .rStx s = .next { s with
      answers := rest, devIn := bs, rxf := s.rxf.dropLast ++ [s.rxf.getLastD [] ++ [b]],
      rEvent := if b = 0x02 then .pass else .deny, rState := if b = 0x02 then .len else .nak, rPhase := .start } :=
  (field1_byte ha hs hne hb).trans (congrArg _ (recvEmit_expected Config.STX b _ rfl rfl))

/-- Receive `etx` with a byte (42_receive_fsm R217). -/
theorem exec_rEtx_byte (ha : s.answers = a :: rest) (hs : a.status = .success) (hne : s.rxf ≠ [])
    (hb : s.devIn = b :: bs) :
    exec .rEtx s = .next { s with
      answers := rest, devIn := bs, rxf := s.rxf.dropLast ++ [s.rxf.getLastD [] ++ [b]],
      rEvent := if b = 0x03 then .pass else .deny, rState := if b = 0x03 then .cs else .nak, rPhase := .start } :=
  (field1_byte ha hs hne hb).trans (congrArg _ (recvEmit_expected Config.ETX b _ rfl rfl))

/-- Settles O22: a byte by the equation of each state, a failure by that of the field they share. -/
theorem recvStxAndEtxExpectOneByte : Obligations.RecvStxAndEtxExpectOneByte := by
  unfold Obligations.RecvStxAndEtxExpectOneByte
  refine fun s a rest ha hne => ⟨fun b bs hs hb => ⟨exec_rStx_byte ha hs hne hb, exec_rEtx_byte ha hs hne hb⟩,
    fun hs => ?_⟩
  obtain ⟨inp, hinp, hfail⟩ := field1_fails ha hs hne
  exact ⟨inp, hinp, hfail .stx _, hfail .etx _⟩

/-- Receive `cs` with a byte (42_receive_fsm R218). -/
theorem exec_rCs_byte (ha : s.answers = a :: rest) (hs : a.status = .success) (hne : s.rxf ≠ [])
    (hb : s.devIn = b :: bs) :
    exec .rCs s = .next { s with
      answers := rest, devIn := bs, rxf := s.rxf.dropLast ++ [s.rxf.getLastD [] ++ [b]],
      rEvent := if b = Config.checksum (s.rxf.getLastD []).tail then .pass else .deny,
      rState := if b = Config.checksum (s.rxf.getLastD []).tail then .ack2 else .nak, rPhase := .start } := by
  have hread : exec .rCs s = .next (recvEmit .cs (classifyExpected (Config.checksum (rxBody s)) b)
      (rxAppend [b] { s with answers := rest, devIn := bs })) := by
    simp only [exec, execRCs, if_neg hne, devRead1_byte ha hs hb]
  rw [hread, recvEmit_expected _ _ _ rfl rfl, rxBody, List.drop_one]
  rfl

/-- Settles O26: one equation for each answer of the read. -/
theorem recvCsComparesTheChecksum : Obligations.RecvCsComparesTheChecksum := by
  unfold Obligations.RecvCsComparesTheChecksum
  refine fun s a rest ha hne => ⟨fun b bs hs hb => exec_rCs_byte ha hs hne hb, fun hs => ?timeout,
    fun hs => ⟨a.stream, ?error⟩⟩
  case timeout =>
    simp only [exec, execRCs, if_neg hne, devRead1_timeout ha hs (by simp : Config.tField ≠ some 0)]
    rfl
  case error =>
    simp only [exec, execRCs, if_neg hne, devRead1_error ha hs]
    rfl

/-! ### The lengths -/

/-- What receive `len` does with its byte, by the byte's value (42_receive_fsm R211). -/
theorem lenByte_eq (b : Byte) (s : State) : lenByte b s =
    if b.toNat = 254 then { s with rxShape := .extPending, rEvent := .pass, rState := .datacmd, rPhase := .start }
    else if 5 ≤ b.toNat ∧ b.toNat ≤ 253 then { s with
      rxShape := .regular, rxLen := BitVec.ofNat 24 b.toNat, rEvent := .pass, rState := .datacmd, rPhase := .start }
    else { s with rEvent := .deny, rState := .nak, rPhase := .start } := by
  have hmarker : b = Config.EXT_LEN ↔ b.toNat = 254 := BitVec.toNat_inj.symm
  simp only [lenByte, hmarker, Config.regLenMin_eq, Config.regLenMax_eq, BitVec.ofNat_toNat]
  rfl

/-- Receive `len` with a byte (42_receive_fsm R211). -/
theorem exec_rLen_byte (ha : s.answers = a :: rest) (hs : a.status = .success) (hne : s.rxf ≠ [])
    (hb : s.devIn = b :: bs) :
    exec .rLen s = .next (lenByte b (rxAppend [b] { s with answers := rest, devIn := bs })) :=
  field1_byte ha hs hne hb

/-- Settles O23: a byte by its value, a failure by the equation of the field. -/
theorem recvLenFixesOrDefersTheShape : Obligations.RecvLenFixesOrDefersTheShape := by
  unfold Obligations.RecvLenFixesOrDefersTheShape
  refine fun s a rest ha hne => ⟨fun b bs hs hb => ?byte, fun hs => ?fail⟩
  case byte =>
    rw [exec_rLen_byte ha hs hne hb, lenByte_eq, apply_ite Host.Outcome.next, apply_ite Host.Outcome.next]
    rfl
  case fail =>
    obtain ⟨inp, hinp, hfail⟩ := field1_fails ha hs hne
    exact ⟨inp, hinp, hfail .len _⟩

/-- What receive `dataextlen` does with its three bytes, by their value and by whether a frame has been completed
(42_receive_fsm R213, R214). -/
theorem extLenBytes_eq (bs : Bytes) (s : State) : extLenBytes bs s =
    if (if 1 < s.rxf.length ∨ 1032 < unbe bs then 12 ≤ unbe bs ∧ unbe bs ≤ 1036 else 5 ≤ unbe bs) then { s with
      rxLen := BitVec.ofNat 24 (unbe bs),
      rxShape := if 1 < s.rxf.length ∨ 1032 < unbe bs then .divided else .extended,
      rEvent := .pass, rState := .dataframenumber, rPhase := .start }
    else { s with rxLen := BitVec.ofNat 24 (unbe bs), rEvent := .deny, rState := .nak, rPhase := .start } := by
  have hsel : selectsDivided s.midDivision (unbe bs) = true ↔ 1 < s.rxf.length ∨ 1032 < unbe bs := by
    simp [selectsDivided, State.midDivision]
  simp only [extLenBytes, hsel, Config.divOverhead_eq, Config.chunkMax_eq, Config.extOverhead_eq]
  by_cases hdiv : 1 < s.rxf.length ∨ 1032 < unbe bs
  · have hrange : (unbe bs < 12 ∨ 12 + 1024 < unbe bs) ↔ ¬ (12 ≤ unbe bs ∧ unbe bs ≤ 1036) := by omega
    simp only [if_pos hdiv, hrange, ite_not]
    rfl
  · have hrange : unbe bs < 5 ↔ ¬ 5 ≤ unbe bs := Nat.not_le.symm
    simp only [if_neg hdiv, hrange, ite_not]
    rfl

/-- Receive `dataextlen` is passed through for the regular shape (42_receive_fsm R213). -/
theorem exec_rDataextlen_regular (h : s.rxShape = .regular) :
    exec .rDataextlen s = .next { s with rEvent := .pass, rState := .dataframenumber, rPhase := .start } :=
  if_pos h

/-- Appending to the frame in progress leaves the number of buffers as it is. -/
theorem rxAppend_rxf_length (hne : s.rxf ≠ []) (bs : Bytes) : (rxAppend bs s).rxf.length = s.rxf.length := by
  have hpos := List.length_pos_iff.mpr hne
  simp
  omega

/-- Settles O25: the three bytes by their value. -/
theorem recvDataextlenSelectsTheShape : Obligations.RecvDataextlenSelectsTheShape := by
  unfold Obligations.RecvDataextlenSelectsTheShape
  refine ⟨fun _ => exec_rDataextlen_regular, fun s a rest e2 e1 e0 bs v hsh ha hs hne hb hv => ?_⟩
  have hread : exec .rDataextlen s =
      .next (extLenBytes [e2, e1, e0] (rxAppend [e2, e1, e0] { s with answers := rest, devIn := bs })) :=
    (if_neg hsh).trans (fieldN_bytes ha hs hne (hb.trans rfl) rfl)
  rw [hread, extLenBytes_eq, unbe_three, ← hv,
    rxAppend_rxf_length (s := { s with answers := rest, devIn := bs }) hne, apply_ite Host.Outcome.next]
  rfl

/-! ### Header, frame numbers and data -/

/-- Receive `datacmd` with its three bytes (42_receive_fsm R212). -/
theorem exec_rDatacmd_bytes (ha : s.answers = a :: rest) (hs : a.status = .success) (hne : s.rxf ≠ [])
    (hb : s.devIn = bs ++ more) (hn : bs.length = 3) :
    exec .rDatacmd s = .next { s with
      answers := rest, devIn := more, rxf := s.rxf.dropLast ++ [s.rxf.getLastD [] ++ bs],
      rEvent := .pass, rState := .dataextlen, rPhase := .start } :=
  fieldN_bytes ha hs hne hb hn

/-- Receive `dataframenumber` is passed through unless the shape is divided (42_receive_fsm R215). -/
theorem exec_rDataframenumber_skip (h : s.rxShape ≠ .divided) :
    exec .rDataframenumber s = .next { s with rEvent := .pass, rState := .data, rPhase := .start } :=
  if_neg h

/-- Two bytes, read as a number into a 16-bit register, stand side by side in it (20_memory R62). -/
theorem ofNat_unbe_two (a b : Byte) : BitVec.ofNat 16 (unbe [a, b]) = (a ++ b : BitVec 16) := by
  have hv : unbe [a, b] = (a ++ b : BitVec 16).toNat := by simp [unbe, append_toNat]
  rw [hv, BitVec.ofNat_toNat, BitVec.setWidth_eq]

/-- Receive `dataframenumber` with the four bytes of a divided frame (42_receive_fsm R215). -/
theorem exec_rDataframenumber_bytes {n1 n0 t1 t0 : Byte} (ha : s.answers = a :: rest) (hs : a.status = .success)
    (hne : s.rxf ≠ []) (hsh : s.rxShape = .divided) (hb : s.devIn = n1 :: n0 :: t1 :: t0 :: bs) :
    exec .rDataframenumber s = .next { s with
      answers := rest, devIn := bs, rxf := s.rxf.dropLast ++ [s.rxf.getLastD [] ++ [n1, n0, t1, t0]],
      rxFrameNo := n1 ++ n0, rxFrameCnt := t1 ++ t0, rEvent := .pass, rState := .data, rPhase := .start } := by
  rw [← ofNat_unbe_two, ← ofNat_unbe_two]
  exact (if_pos hsh).trans (fieldN_bytes (bs := [n1, n0, t1, t0]) ha hs hne hb rfl)

/-- The number of data bytes that the shape and the declared length give (42_receive_fsm R216). -/
theorem rxDataCount_eq (h : (s.rxShape = .regular ∨ s.rxShape = .extended) ∧ s.rxLen.toNat = n + 5 ∨
    s.rxShape = .divided ∧ s.rxLen.toNat = n + 12) : rxDataCount s = some n := by
  obtain ⟨hsh | hsh, hlen⟩ | ⟨hsh, hlen⟩ := h <;> simp [rxDataCount, hsh, hlen]

/-- Receive `data` with nothing to read (42_receive_fsm R216). -/
theorem exec_rData_none (hc : rxDataCount s = some 0) :
    exec .rData s = .next { s with rEvent := .pass, rState := .etx, rPhase := .start } := by
  simp only [exec, execRData, hc]
  rfl

/-- Receive `data` with something to read is a field (42_receive_fsm R216). -/
theorem exec_rData_field (hc : rxDataCount s = some n) (hpos : 0 < n) :
    exec .rData s = fieldN .data n (fun _ => recvEmit .data .pass) s := by
  obtain ⟨m, rfl⟩ := Nat.exists_eq_succ_of_ne_zero hpos.ne'
  simp only [exec, execRData, hc]

/-- Receive `data` with its bytes (42_receive_fsm R216). -/
theorem exec_rData_bytes (hc : rxDataCount s = some n) (hpos : 0 < n) (ha : s.answers = a :: rest)
    (hs : a.status = .success) (hne : s.rxf ≠ []) (hb : s.devIn = bs ++ more) (hn : bs.length = n) :
    exec .rData s = .next { s with
      answers := rest, devIn := more, rxf := s.rxf.dropLast ++ [s.rxf.getLastD [] ++ bs],
      rEvent := .pass, rState := .etx, rPhase := .start } :=
  (exec_rData_field hc hpos).trans (fieldN_bytes ha hs hne hb hn)

/-- Settles O24: the equations of the three states. -/
theorem recvHeaderNumbersAndData : Obligations.RecvHeaderNumbersAndData := by
  unfold Obligations.RecvHeaderNumbersAndData
  refine ⟨fun s a rest ha hs hne hlen => ?_, fun _ => exec_rDataframenumber_skip,
    fun _ _ _ _ _ _ _ _ => exec_rDataframenumber_bytes, fun s n hcount => ⟨?_, fun a rest hpos ha hs hne hlen => ?_⟩⟩
  · exact exec_rDatacmd_bytes ha hs hne (List.take_append_drop 3 s.devIn).symm (List.length_take_of_le hlen)
  · rintro rfl
    exact exec_rData_none (rxDataCount_eq hcount)
  · exact exec_rData_bytes (rxDataCount_eq hcount) hpos ha hs hne (List.take_append_drop n s.devIn).symm
      (List.length_take_of_le hlen)

/-! ### Failure of a field -/

/-- The instruction reads a field in the state `s`: its action is a read of one or of several bytes that goes to `error`
with `Fail` (42_receive_fsm R202, R204). -/
inductive ReadsField (s : State) (i : Instr) : Prop
  | one (st : RecvState) (k : Byte → State → State) (table : tRecv st .fail = some .error)
      (eq : exec i s = field1 st k s)
  | several (st : RecvState) (n : Nat) (k : Bytes → State → State) (table : tRecv st .fail = some .error)
      (eq : exec i s = fieldN st n k s)

/-- A field that cannot be read leads to `error` and leaves everything but the device as it is (42_receive_fsm R204). -/
theorem ReadsField.fails {i : Instr} (h : ReadsField s i) (ha : s.answers = a :: rest) (hs : a.status ≠ .success)
    (hne : s.rxf ≠ []) :
    ∃ inp : Bytes, (a.status = .timeout → inp <:+ s.devIn) ∧ exec i s = .next { s with
      answers := rest, devIn := inp, rEvent := .fail, rState := .error, rPhase := .start } := by
  cases h with
  | one st k table eq =>
    obtain ⟨inp, hinp, hfail⟩ := field1_fails ha hs hne
    exact ⟨inp, fun ht => hinp ht ▸ List.suffix_rfl, by rw [eq, hfail, recvEmit, table, Option.getD_some]⟩
  | several st n k table eq =>
    obtain ⟨inp, hinp, hfail⟩ := fieldN_fails st n k ha hs hne
    exact ⟨inp, hinp, by rw [eq, hfail, recvEmit, table, Option.getD_some]⟩

/-- Receive `data` reads a field when its shape and length ask for a byte or more (42_receive_fsm R216). -/
theorem readsField_data (h : s.rxShape = .regular ∧ 5 < s.rxLen.toNat ∨ s.rxShape = .extended ∧ 5 < s.rxLen.toNat ∨
    s.rxShape = .divided ∧ 12 < s.rxLen.toNat) : ReadsField s .rData := by
  obtain ⟨n, hpos, hc⟩ : ∃ n, 0 < n ∧ rxDataCount s = some n := by
    obtain ⟨hsh, hlen⟩ | ⟨hsh, hlen⟩ | ⟨hsh, hlen⟩ := h
    · exact ⟨s.rxLen.toNat - 5, by omega, rxDataCount_eq (.inl ⟨.inl hsh, by omega⟩)⟩
    · exact ⟨s.rxLen.toNat - 5, by omega, rxDataCount_eq (.inl ⟨.inr hsh, by omega⟩)⟩
    · exact ⟨s.rxLen.toNat - 12, by omega, rxDataCount_eq (.inr ⟨hsh, by omega⟩)⟩
  exact .several .data n _ rfl (exec_rData_field hc hpos)

/-- Settles O27: each of the seven actions reads a field. -/
theorem recvFieldFailureAborts : Obligations.RecvFieldFailureAborts := by
  unfold Obligations.RecvFieldFailureAborts
  intro s a rest i ha hs hne hi
  have hfield : ReadsField s i := by
    obtain rfl | rfl | rfl | ⟨rfl, hsh⟩ | ⟨rfl, hsh⟩ | ⟨rfl, hdata⟩ | rfl := hi
    · exact .one .stx _ rfl rfl
    · exact .one .len _ rfl rfl
    · exact .several .datacmd _ _ rfl rfl
    · exact .several .dataextlen _ _ rfl (if_neg hsh)
    · exact .several .dataframenumber _ _ rfl (if_pos hsh)
    · exact readsField_data hdata
    · exact .one .etx _ rfl rfl
  exact hfield.fails ha hs hne

end Sys2Proof.Machine
end

section
/-! SUPPORT. The drain of receive `enquiry`, read by read and as a whole action (42_receive_fsm R208, 20_memory R72). -/

namespace Sys2Proof.Machine

variable {s : State} {st : RecvState} {a : DevAnswer} {rest : List DevAnswer} {b : Byte} {bs : Bytes}

/-! ### One read -/

/-- A read of the drain of receive `enquiry` that takes a byte (42_receive_fsm R208). -/
theorem exec_rEnquiry_byte (ha : s.answers = a :: rest)
    (hs : a.status = .success ∨ s.deviceOpen = true ∧ a.status ≠ .error) (hb : s.devIn = b :: bs) :
    exec .rEnquiry s = .next { s with answers := rest, devIn := bs, rPhase := .drained b } := by
  simp only [exec, execREnquiry, drainRead_byte ha hs hb]

/-- A read of the drain of receive `enquiry` on a closed device that brings the byte itself (60_exceptions R332;
log 29). -/
theorem exec_rEnquiry_closed_byte (ha : s.answers = a :: rest) (hs : a.status = .success) (ho : s.deviceOpen = false)
    (hin : s.devIn = []) (hb : a.stream = b :: bs) :
    exec .rEnquiry s = .next { s with answers := rest, rPhase := .drained b } := by
  have hread := drainRead_closed_success ha hs ho hin
  rw [← hin, hb] at hread
  simp only [exec, execREnquiry, hread]
  rfl

/-- A read of the drain of receive `enquiry` that meets an error (42_receive_fsm R208). -/
theorem exec_rEnquiry_error (ha : s.answers = a :: rest) (hs : a.status = .error) :
    exec .rEnquiry s = .next { s with
      answers := rest, devIn := a.stream, rEvent := .fail, rState := .error, rPhase := .start } := by
  simp only [exec, execREnquiry, drainRead, devRead1_error ha hs]
  rfl

/-- The answers that end a drain without an error: a timeout of a closed device or on an empty stream, or a success
that brings no byte (20_memory R72, 60_exceptions R332; log 29). -/
theorem drainRead_ends (ha : s.answers = a :: rest)
    (hs : (a.status = .timeout ∧ (s.deviceOpen = false ∨ s.devIn = [])) ∨
      (a.status = .success ∧ s.devIn = [] ∧ (s.deviceOpen = true ∨ a.stream = []))) :
    drainRead s = some (.timeout, { s with answers := rest }) := by
  obtain ⟨hs, ho | hin⟩ | ⟨hs, hin, hend⟩ := hs
  · exact drainRead_closed ha hs ho
  · exact drainRead_empty ha (.inl hs) hin
  · by_cases ho : s.deviceOpen = true
    · exact drainRead_empty ha (.inr ⟨ho, by simp [hs]⟩) hin
    · have hread := drainRead_closed_success ha hs (eq_false_of_ne_true ho) hin
      rw [← hin, hend.resolve_left ho] at hread
      exact hread

/-! ### The end of the drain -/

/-- The event of a drain that has taken its last byte (42_receive_fsm R208). -/
theorem classifyDrain_drained (b : Byte) : classifyDrain (drainSoFar (.drained b)) =
    if b = 0x05 then .pass else if b = 0x15 then .busy else .deny := rfl

/-- Where receive `enquiry` goes with the last byte of the drain (42_receive_fsm R202, R208). -/
theorem tRecv_enquiry_drained (b : Byte) (d : RecvState) :
    (tRecv .enquiry (classifyDrain (drainSoFar (.drained b)))).getD d =
      if b = 0x05 then .ack else if b = 0x15 then .repoll else .retry := by
  rw [classifyDrain_drained]
  split_ifs <;> rfl

/-- The read that ends the drain of receive `enquiry` after the byte `b` (42_receive_fsm R208). -/
theorem exec_rEnquiry_ends_after (hread : drainRead s = some (.timeout, { s with answers := rest }))
    (hp : s.rPhase = .drained b) :
    exec .rEnquiry s = .next { s with
      answers := rest, rPhase := .start,
      rEvent := if b = 0x05 then .pass else if b = 0x15 then .busy else .deny,
      rState := if b = 0x05 then .ack else if b = 0x15 then .repoll else .retry } := by
  rw [← tRecv_enquiry_drained b s.rState, ← classifyDrain_drained]
  simp only [exec, execREnquiry, hread, hp]
  rfl

/-- The read that ends the drain of receive `enquiry` when it has taken no byte (42_receive_fsm R208). -/
theorem exec_rEnquiry_ends_empty (hread : drainRead s = some (.timeout, { s with answers := rest }))
    (hp : drainSoFar s.rPhase = .empty) :
    exec .rEnquiry s = .next { s with
      answers := rest, rPhase := .start, rEvent := .busy, rState := .repoll } := by
  simp only [exec, execREnquiry, hread, hp]
  rfl

/-! ### The drain as a whole -/

/-- A run whose first step is a turn of the receive engine. -/
theorem runFor_recv {n : Nat} {t : State} {turns : List Turn} (hr : s.rRun = true) (hst : s.rState = st)
    (ht : s.turns = .engine .recv :: turns) (he : exec (recvInstr st) { s with turns := turns } = .next t) :
    runFor (n + 1) s = runFor n t :=
  runFor_next ((step_recv ht hr hst).trans he)

/-- How far the drain is when it has taken `bs`, from the phase `ph` on: its last byte is known (20_memory R72). -/
def drainPhase (ph : RecvPhase) (bs : Bytes) : RecvPhase := bs.getLast?.elim ph .drained

/-- A drain that takes a byte more goes on from that byte. -/
theorem drainPhase_cons (ph : RecvPhase) (b : Byte) (bs : Bytes) :
    drainPhase ph (b :: bs) = drainPhase (.drained b) bs := by
  rw [drainPhase, drainPhase, List.getLast?_cons]
  cases bs.getLast? <;> rfl

/-- The reads of a drain that give a byte: as many turns as the stream holds bytes empty it (20_memory R72). -/
theorem runFor_recvDrain (oks : List DevAnswer) (turns : List Turn) (more : List DevAnswer) (hr : s.rRun = true)
    (hst : s.rState = .enquiry) (hoks : ∀ x ∈ oks, x.status = .success ∨ s.deviceOpen = true ∧ x.status ≠ .error)
    (hl : oks.length = s.devIn.length) (ha : s.answers = oks ++ more)
    (ht : s.turns = List.replicate oks.length (.engine .recv) ++ turns) :
    runFor oks.length s = some { s with
      turns := turns, answers := more, devIn := [], rPhase := drainPhase s.rPhase s.devIn } := by
  induction oks generalizing s with
  | nil =>
    have hb : s.devIn = [] := List.length_eq_zero_iff.mp hl.symm
    have hph : drainPhase s.rPhase s.devIn = s.rPhase := by rw [hb]; rfl
    simp only [List.length_nil, List.replicate_zero, List.nil_append] at ha ht ⊢
    rw [runFor_zero, ← ht, ← ha, hph, ← hb]
  | cons x xs ih =>
    cases hb : s.devIn with
    | nil => simp [hb] at hl
    | cons b bs =>
      have hread := exec_rEnquiry_byte (s := { s with turns := List.replicate xs.length (.engine .recv) ++ turns })
        ha (hoks x (List.mem_cons_self ..)) hb
      rw [List.length_cons, runFor_recv hr hst ht hread, drainPhase_cons]
      exact ih hr hst (fun y hy => hoks y (List.mem_cons_of_mem _ hy)) (by simpa [hb] using hl) rfl rfl

/-- The whole drain but the classification: every byte of the stream is taken, and the read that finds none comes in the
phase that the last byte has left. -/
theorem runFor_recvDrained (oks : List DevAnswer) (turns : List Turn) (hr : s.rRun = true) (hst : s.rState = .enquiry)
    (hoks : ∀ x ∈ oks, x.status = .success ∨ s.deviceOpen = true ∧ x.status ≠ .error)
    (hl : oks.length = s.devIn.length) (ha : s.answers = oks ++ a :: rest)
    (ht : s.turns = List.replicate (oks.length + 1) (.engine .recv) ++ turns) {t : State}
    (hlast : exec .rEnquiry { s with
      turns := turns, answers := a :: rest, devIn := [], rPhase := drainPhase s.rPhase s.devIn } = .next t) :
    runFor (oks.length + 1) s = some t := by
  have ht' : s.turns = List.replicate oks.length (.engine .recv) ++ .engine .recv :: turns := by
    rw [ht, List.replicate_succ', List.append_assoc]
    rfl
  rw [runFor_add, runFor_recvDrain oks _ _ hr hst hoks hl ha ht', Option.bind_some]
  exact runFor_recv hr hst rfl hlast

/-- Settles O20: each read by its equation, the whole action as a run of reads and its end. -/
theorem recvEnquiryClassifiesTheLastByte : Obligations.RecvEnquiryClassifiesTheLastByte := by
  unfold Obligations.RecvEnquiryClassifiesTheLastByte
  refine ⟨fun s a rest ha => ⟨fun b bs => exec_rEnquiry_byte ha,
      fun b bs ho hs => exec_rEnquiry_closed_byte ha hs ho, fun hs => ?ends,
      fun hs => ⟨a.stream, exec_rEnquiry_error ha hs⟩⟩,
    fun s oks a rest turns hr hst hp hoks hl hend ha ht => ?whole⟩
  case ends =>
    have hread := drainRead_ends ha hs
    cases hp : s.rPhase with
    | drained b => exact exec_rEnquiry_ends_after hread hp
    | start => exact exec_rEnquiry_ends_empty hread (by rw [hp]; rfl)
    | lock => exact exec_rEnquiry_ends_empty hread (by rw [hp]; rfl)
  case whole =>
    refine runFor_recvDrained oks turns hr hst hoks hl ha ht ?_
    have hread := drainRead_empty (s := { s with
      turns := turns, answers := a :: rest, devIn := [], rPhase := drainPhase s.rPhase s.devIn }) rfl hend rfl
    cases hlast : s.devIn.getLast? with
    | some b =>
      have hph : drainPhase s.rPhase s.devIn = .drained b := by rw [drainPhase, hlast]; rfl
      rw [exec_rEnquiry_ends_after hread hph, hp]
    | none =>
      have hph : drainSoFar (drainPhase s.rPhase s.devIn) = .empty := by rw [drainPhase, hlast, hp]; rfl
      rw [exec_rEnquiry_ends_empty hread hph, hp]

end Sys2Proof.Machine
end

section
/-! SUPPORT. The end of a `receive`: the frames that a successful call has collected are in the domain of `parseFrames`
(42_receive_fsm R224, 40_frame_codec R139 to R142). -/

namespace Sys2Proof.Machine

variable {s : State} {f f0 : Frame} {done rest : List Frame}

/-! ### Payloads of three bytes or more -/

/-- The header bytes of a frame that has them (40_frame_codec R141, R142). -/
theorem slice_header_length (h : 5 ≤ f.length) : (slice f 2 5).length = 3 := by
  simp [slice]
  omega

/-- A regular frame of seven bytes or more gives a payload with its header (40_frame_codec R140). -/
theorem parseFrames_regular_payload (hm : isExtended f = false) (h : 7 ≤ f.length) :
    ∃ p, parseFrames [f] = some p ∧ 3 ≤ p.length := by
  have hfits : regularFits f = true := decide_eq_true (by omega)
  have hlist : regularListFits [f] = true := by simp [regularListFits, hfits]
  refine ⟨_, (parseFrames_of_regular hm hlist).trans (if_pos hfits), ?_⟩
  simp [slice]
  omega

/-- An undivided extended frame gives a payload with its header (40_frame_codec R141). -/
theorem parseFrames_extended_payload (hm : isExtended f = true) (hs : selectsDivided false (unbe (slice f 5 8)) = false)
    (h : 10 ≤ f.length) : ∃ p, parseFrames [f] = some p ∧ 3 ≤ p.length := by
  refine ⟨_, (parseFrames_of_extended (rest := []) hm hs).trans (if_pos (decide_eq_true h)), ?_⟩
  rw [List.length_append, slice_header_length (by omega)]
  omega

/-- A division gives a payload with the header of its first frame (40_frame_codec R142). -/
theorem parseFrames_divided_payload (hf0 : CompletedBuffer f0)
    (hs : selectsDivided (!rest.isEmpty) (unbe (slice f0 5 8)) = true) (hrest : ∀ f ∈ rest, laterFits f = true) :
    ∃ p, parseFrames (f0 :: rest) = some p ∧ 3 ≤ p.length := by
  obtain ⟨hm, hfits⟩ := hf0
  have hlen : 14 ≤ f0.length := of_decide_eq_true hfits
  have hlist := dividedListFits_iff.mpr ⟨hlen, hrest⟩
  refine ⟨_, (parseFrames_of_divided hm hs).trans (parseDivided_eq hlist), ?_⟩
  rw [List.length_append, List.length_append, slice_header_length (by omega)]
  omega

/-! ### The collected frames -/

/-- A regular frame that is whole has no marker and at least seven bytes (42_receive_fsm R211, R216). -/
theorem wholeFrame_regular (hlength : f.length = rxBeforeEtx s + 2) (hdecided : rxDecided s f)
    (sh : s.rxShape = .regular) : isExtended f = false ∧ 7 ≤ f.length := by
  simp only [rxDecided, sh, Config.regLenMin_eq] at hdecided
  simp only [rxBeforeEtx, sh] at hlength
  exact ⟨hdecided.1, by omega⟩

/-- An undivided extended frame that is whole stands alone and selects its shape again (42_receive_fsm R213, R216). -/
theorem wholeFrame_extended (hlength : f.length = rxBeforeEtx s + 2) (hdecided : rxDecided s f)
    (sh : s.rxShape = .extended) :
    s.midDivision = false ∧ isExtended f = true ∧ selectsDivided false (unbe (slice f 5 8)) = false ∧
      10 ≤ f.length := by
  simp only [rxDecided, sh, Config.extOverhead_eq, Config.divThreshold_eq] at hdecided
  obtain ⟨hm, hmid, hmin, hmax, hfield⟩ := hdecided
  simp only [rxBeforeEtx, sh] at hlength
  have hsel : selectsDivided false (unbe (slice f 5 8)) = false := by
    rw [hfield]
    simp [selectsDivided, hmax]
  exact ⟨hmid, hm, hsel, by omega⟩

/-- A divided frame that is whole is a completed buffer and selects its shape again (42_receive_fsm R213, R216). -/
theorem wholeFrame_divided (hlength : f.length = rxBeforeEtx s + 2) (hdecided : rxDecided s f)
    (sh : s.rxShape = .divided) :
    CompletedBuffer f ∧ selectsDivided s.midDivision (unbe (slice f 5 8)) = true := by
  have hbuffer := completedBuffer_of_divided sh hlength hdecided
  simp only [rxDecided, sh] at hdecided
  obtain ⟨-, hsel, -, -, hfield⟩ := hdecided
  exact ⟨hbuffer, hfield.symm ▸ hsel⟩

/-- A frame that follows completed ones and is whole may stand as a later frame of the division, be it divided or
regular (40_frame_codec R142). -/
theorem wholeFrame_laterFits (hlength : f.length = rxBeforeEtx s + 2) (hdecided : rxDecided s f)
    (hmid : s.midDivision = true) : laterFits f = true := by
  cases sh : s.rxShape with
  | none => simp [rxDecided, sh] at hdecided
  | extPending => simp [rxDecided, sh] at hdecided
  | regular =>
    obtain ⟨hm, hlen⟩ := wholeFrame_regular hlength hdecided sh
    simp [laterFits, hm, hlen]
  | extended =>
    have hmid' := (wholeFrame_extended hlength hdecided sh).1
    simp [hmid'] at hmid
  | divided =>
    obtain ⟨⟨hm, hfits⟩, -⟩ := wholeFrame_divided hlength hdecided sh
    exact laterFits_of_dividedFits hm hfits

/-- A whole frame after completed ones, or alone, gives a payload with a header (42_receive_fsm R224, 43_orchestrator
R265). -/
theorem Receiving.payload (hi : Receiving s done f) (hlength : f.length = rxBeforeEtx s + 2)
    (hdecided : rxDecided s f) : ∃ p, parseFrames s.rxf = some p ∧ 3 ≤ p.length := by
  have hmid := midDivision_of_store hi.store
  rw [hi.store]
  cases done with
  | cons g gs =>
    obtain ⟨hg, hgs⟩ := List.forall_mem_cons.mp hi.completed
    refine parseFrames_divided_payload hg (by simp [selectsDivided]) (List.forall_mem_append.mpr ⟨fun g' hg' => ?_, ?_⟩)
    · obtain ⟨hm, hfits⟩ := hgs g' hg'
      exact laterFits_of_dividedFits hm hfits
    · simpa using wholeFrame_laterFits hlength hdecided hmid
  | nil =>
    cases sh : s.rxShape with
    | none => simp [rxDecided, sh] at hdecided
    | extPending => simp [rxDecided, sh] at hdecided
    | regular =>
      obtain ⟨hm, hlen⟩ := wholeFrame_regular hlength hdecided sh
      exact parseFrames_regular_payload hm hlen
    | extended =>
      obtain ⟨-, hm, hsel, hlen⟩ := wholeFrame_extended hlength hdecided sh
      exact parseFrames_extended_payload hm hsel hlen
    | divided =>
      obtain ⟨hbuffer, hsel⟩ := wholeFrame_divided hlength hdecided sh
      exact parseFrames_divided_payload hbuffer (hmid ▸ hsel) nofun

/-! ### The action of `end` -/

/-- Receive `end` after a failure (42_receive_fsm R224). -/
theorem exec_rEnd_failed (h : s.rxOk = false) : exec .rEnd s =
    .next (callReturns (.receiveResult false none) { endReceive (lockRelease .recv s) with rxPayload := none }) := by
  simp only [exec, execREnd, h, Bool.false_eq_true, if_false]

/-- Receive `end` after success, with the payload of the collected frames (42_receive_fsm R224, 43_orchestrator R265). -/
theorem exec_rEnd_ok {p : Bytes} (h : s.rxOk = true) (hp : parseFrames s.rxf = some p) : exec .rEnd s =
    .next (callReturns (.receiveResult true (some p))
      { endReceive (lockRelease .recv s) with rxPayload := some p }) := by
  simp only [exec, execREnd, h, hp, if_true]

/-- Settles O29: the registers without a defined value hold the free values of `endReceive`, and under the invariant
the last frame is whole at `end`. -/
theorem recvEndReturnsThePayload : Obligations.RecvEndReturnsThePayload := by
  unfold Obligations.RecvEndReturnsThePayload
  refine fun s => ⟨_, _, _, _, _, _, _, exec_rEnd_failed, fun hok hinv hrun hst => ?_⟩
  obtain ⟨done, f, hi⟩ := hinv.receiving hrun
  obtain ⟨hlength, hdecided⟩ : f.length = rxBeforeEtx s + 2 ∧ rxDecided s f := (hi.inState hst :) hok
  obtain ⟨p, hp, hmin⟩ := hi.payload hlength hdecided
  exact ⟨p, hp, hmin, exec_rEnd_ok hok hp⟩

end Sys2Proof.Machine
end

section
/-! SUPPORT. The run of a `receive` of one regular frame that meets no failure, field by field (42_receive_fsm R227). -/

namespace Sys2Proof.Machine

variable {s : State} {n : Nat} {turns : List Turn} {answers : List DevAnswer} {cmd sub cb cs : Byte} {data : Bytes}

/-- A run and the run from where it ended. -/
theorem runFor_trans {m : Nat} {t : State} {r : Option State} (h : runFor m s = some t) (hrest : runFor n t = r) :
    runFor (m + n) s = r := by
  rw [runFor_add, h, Option.bind_some, hrest]

/-! ### From the request to the acknowledged enquiry -/

/-- A `receive` that the host asks for while none runs starts (43_orchestrator R264). -/
theorem execReceive_starts (hc : s.constructed = true) (hr : s.rRun = false) :
    execReceive s = .next (startReceive s) := by
  simp only [execReceive, hc, hr, if_true, Bool.false_eq_true, if_false]

/-- From the host's request to `poll`: the call starts and `r1` is reset. -/
theorem runFor_receiveStarted (hc : s.constructed = true) (hr : s.rRun = false)
    (ht : s.turns = .host .receive :: .engine .recv :: turns) :
    runFor 2 s = some { startReceive s with turns := turns, r1 := 0, rEvent := .pass, rState := .poll } := by
  have hstart := (step_host ht).trans (execReceive_starts (s := { s with turns := .engine .recv :: turns }) hc hr)
  exact (runFor_next hstart).trans (runFor_recv rfl rfl rfl (exec_rIdle _))

/-- The turn of `ack` or `ack2` when the device takes the byte (42_receive_fsm R209, R219). -/
theorem runFor_ackWritten {st next : RecvState} (hwrite : ∀ u, exec (recvInstr st) u = recvWrite st Config.ACK u)
    (hpass : tRecv st .pass = some next) (hfail : tRecv st .fail = some .error) (hr : s.rRun = true)
    (hst : s.rState = st) (ha : s.answers = answer .success 1 :: answers) (ht : s.turns = .engine .recv :: turns) :
    runFor (n + 1) s = runFor n { s with
      turns := turns, answers := answers, devOut := s.devOut ++ [Config.ACK], rEvent := .pass, rState := next,
      rPhase := .start } :=
  runFor_recv hr hst ht ((hwrite _).trans (recvWrite_eq (s := { s with turns := turns }) Config.ACK hpass hfail ha))

/-- The peer's enquiry is a wire unit (30_encoding R91). -/
theorem decode_enq : decode (.wire .answer [Config.ENQ]) = .ok .enq := rfl

/-- The enquiry arrives at `poll` with the lock free: the device is found readable and the lock is taken
(42_receive_fsm R206). -/
theorem runFor_enquiryFound (hr : s.rRun = true) (hst : s.rState = .poll) (hp : s.rPhase = .start)
    (ho : s.lockOwner = none) (hb : s.devIn = []) (ha : s.answers = answer .success 0 :: answers)
    (ht : s.turns = .unit .answer [Config.ENQ] :: .engine .recv :: .engine .recv :: turns) :
    runFor (n + 3) s = runFor n { s with
      turns := turns, answers := answers, devIn := [Config.ENQ], lockOwner := some .recv, rEvent := .pass,
      rState := .enquiry, rPhase := .start } := by
  have harrive : step s = .next { s with turns := .engine .recv :: .engine .recv :: turns, devIn := [Config.ENQ] } := by
    rw [step_unit ht decode_enq]
    simp only [exec, execEnq, arrive, hb, List.nil_append]
  refine (runFor_next harrive).trans ?_
  refine Eq.trans (runFor_recv hr hst rfl (exec_rPoll_readable (by simp [hp]) ha rfl)) ?_
  exact runFor_recv hr hst rfl (exec_rPoll_locks rfl (by simp [ho]))

/-- The two turns of `enquiry` when the stream holds one ENQ (42_receive_fsm R208). -/
theorem runFor_enquiryTaken (hr : s.rRun = true) (hst : s.rState = .enquiry) (hb : s.devIn = [Config.ENQ])
    (ha : s.answers = answer .success 0 :: answer .timeout 0 :: answers)
    (ht : s.turns = .engine .recv :: .engine .recv :: turns) :
    runFor (n + 2) s = runFor n { s with
      turns := turns, answers := answers, devIn := [], rEvent := .pass, rState := .ack, rPhase := .start } := by
  refine Eq.trans (runFor_recv hr hst ht (exec_rEnquiry_byte ha (.inl rfl) hb)) ?_
  refine Eq.trans (runFor_recv hr hst rfl (exec_rEnquiry_ends_after (drainRead_empty rfl (.inl rfl) rfl) rfl)) ?_
  simp [Config.ENQ]

/-- From the arrival of the enquiry at `poll` to `stx`: the enquiry is acknowledged (42_receive_fsm R206 to R209). -/
theorem runFor_enquiryAcknowledged (hr : s.rRun = true) (hst : s.rState = .poll) (hp : s.rPhase = .start)
    (ho : s.lockOwner = none) (hb : s.devIn = [])
    (ha : s.answers = [answer .success 0, answer .success 0, answer .timeout 0, answer .success 1] ++ answers)
    (ht : s.turns = .unit .answer [Config.ENQ] :: (List.replicate 5 (.engine .recv) ++ turns)) :
    runFor 6 s = some { s with
      turns := turns, answers := answers, lockOwner := some .recv, devOut := s.devOut ++ [Config.ACK],
      rEvent := .pass, rState := .stx } := by
  refine Eq.trans (runFor_enquiryFound hr hst hp ho hb ha ht) ?_
  refine Eq.trans (runFor_enquiryTaken hr rfl rfl rfl rfl) ?_
  refine Eq.trans (runFor_ackWritten (st := .ack) (fun _ => rfl) rfl rfl hr rfl rfl rfl) ?_
  simp [hb, hp]

/-! ### The fields of a regular frame -/

/-- A regular frame is a wire unit, and its bytes arrive (30_encoding R98; log 4). -/
theorem step_regularArrives (hd : data.length ≤ 248) (hb : s.devIn = [])
    (ht : s.turns = .unit (.frame false) (encodeReg cmd sub cb data cs) :: turns) :
    step s = .next { s with turns := turns, devIn := encodeReg cmd sub cb data cs } := by
  rw [step_unit ht (WireUnit.frameReg hd).decodes]
  simp only [exec, execFrameReg, arrive, hb, List.nil_append]

/-- Receive `len` with a regular length (42_receive_fsm R211). -/
theorem exec_rLen_regular {a : DevAnswer} {rest : List DevAnswer} {b : Byte} {bs : Bytes} (ha : s.answers = a :: rest)
    (hs : a.status = .success) (hne : s.rxf ≠ []) (hb : s.devIn = b :: bs) (hmin : 5 ≤ b.toNat) (hmax : b.toNat ≤ 253) :
    exec .rLen s = .next { s with
      answers := rest, devIn := bs, rxf := s.rxf.dropLast ++ [s.rxf.getLastD [] ++ [b]], rxShape := .regular,
      rxLen := BitVec.ofNat 24 b.toNat, rEvent := .pass, rState := .datacmd, rPhase := .start } := by
  rw [exec_rLen_byte ha hs hne hb, lenByte_eq, if_neg (by omega), if_pos ⟨hmin, hmax⟩]
  rfl

/-- The device's answers to the data read of a clean receive: none when there is no data (42_receive_fsm R216). -/
def dataAnswers (data : Bytes) : List DevAnswer := if data = [] then [] else [answer .success 0]

/-- From `stx` to `data`: STX, LEN and the header of a regular frame (42_receive_fsm R210 to R215). -/
theorem runFor_headerRead (hr : s.rRun = true) (hst : s.rState = .stx) (hrx : s.rxf = [[]]) (hd : data.length ≤ 248)
    (hb : s.devIn = encodeReg cmd sub cb data cs) (ha : s.answers = List.replicate 3 (answer .success 0) ++ answers)
    (ht : s.turns = List.replicate 5 (.engine .recv) ++ turns) :
    runFor 5 s = some { s with
      turns := turns, answers := answers, devIn := data ++ [Config.ETX, cs],
      rxf := [[Config.STX, BitVec.ofNat 8 (data.length + 5), cmd, sub, cb]], rxShape := .regular,
      rxLen := BitVec.ofNat 24 (data.length + 5), rEvent := .pass, rState := .data, rPhase := .start } := by
  have hlen := lenByte_toNat hd
  have hne : s.rxf ≠ [] := by simp [hrx]
  rw [encodeReg_eq] at hb
  refine Eq.trans (runFor_recv hr hst ht (exec_rStx_byte ha rfl hne hb)) ?_
  refine Eq.trans (runFor_recv hr rfl rfl (exec_rLen_regular rfl rfl (by simp) rfl (by omega) (by omega))) ?_
  refine Eq.trans (runFor_recv hr rfl rfl
    (exec_rDatacmd_bytes (bs := [cmd, sub, cb]) (more := data ++ [Config.ETX, cs]) rfl rfl (by simp) rfl rfl)) ?_
  refine Eq.trans (runFor_recv hr rfl rfl (exec_rDataextlen_regular rfl)) ?_
  refine Eq.trans (runFor_recv hr rfl rfl (exec_rDataframenumber_skip (by simp))) ?_
  simp [hrx, hlen, Config.STX]

/-- The turn of `data`, with data to read or without (42_receive_fsm R216). -/
theorem runFor_dataRead {f : Frame} {bs : Bytes} (hr : s.rRun = true) (hst : s.rState = .data) (hrx : s.rxf = [f])
    (hc : rxDataCount s = some data.length) (hb : s.devIn = data ++ bs) (ha : s.answers = dataAnswers data ++ answers)
    (ht : s.turns = .engine .recv :: turns) :
    runFor (n + 1) s = runFor n { s with
      turns := turns, answers := answers, devIn := bs, rxf := [f ++ data], rEvent := .pass, rState := .etx,
      rPhase := .start } := by
  by_cases hd : data = []
  · subst hd
    refine Eq.trans (runFor_recv hr hst ht (exec_rData_none hc)) ?_
    rw [List.append_nil, ← hrx, show bs = s.devIn from hb.symm, show answers = s.answers from ha.symm]
  · have ha' : s.answers = answer .success 0 :: answers := ha.trans (by rw [dataAnswers, if_neg hd]; rfl)
    refine Eq.trans (runFor_recv hr hst ht (exec_rData_bytes (s := { s with turns := turns }) hc
      (List.length_pos_iff.mpr hd) ha' rfl (by simp [hrx]) hb rfl)) ?_
    simp [hrx]

/-- From `etx` to `ack2`: the end of a frame whose checksum is right (42_receive_fsm R217, R218). -/
theorem runFor_endRead {f : Frame} (hr : s.rRun = true) (hst : s.rState = .etx) (hrx : s.rxf = [f]) (hf : f ≠ [])
    (hb : s.devIn = [Config.ETX, Config.checksum (f.tail ++ [Config.ETX])])
    (ha : s.answers = answer .success 0 :: answer .success 0 :: answers)
    (ht : s.turns = .engine .recv :: .engine .recv :: turns) :
    runFor 2 s = some { s with
      turns := turns, answers := answers, devIn := [],
      rxf := [f ++ [Config.ETX, Config.checksum (f.tail ++ [Config.ETX])]], rEvent := .pass, rState := .ack2,
      rPhase := .start } := by
  have hne : s.rxf ≠ [] := by simp [hrx]
  refine Eq.trans (runFor_recv hr hst ht (exec_rEtx_byte ha rfl hne hb)) ?_
  refine Eq.trans (runFor_recv hr rfl rfl (exec_rCs_byte rfl rfl (by simp) rfl)) ?_
  simp [hrx, List.tail_append_of_ne_nil hf]

/-- A regular frame is decided to have as many data bytes as its LEN says (42_receive_fsm R216). -/
theorem rxDataCount_regular (hsh : s.rxShape = .regular) (hlen : s.rxLen = BitVec.ofNat 24 (data.length + 5))
    (hd : data.length ≤ 248) : rxDataCount s = some data.length := by
  refine rxDataCount_eq (.inl ⟨.inl hsh, ?_⟩)
  rw [hlen, BitVec.toNat_ofNat]
  omega

/-- The bytes of a regular frame with the checksum of its body (30_encoding R98, R103). -/
def cleanFrame (cmd sub cb : Byte) (data : Bytes) : Frame :=
  encodeReg cmd sub cb data (Config.checksum (regularBody cmd sub cb data))

/-- The frame is its body between STX and the checksum of the body (30_encoding R103). -/
theorem cleanFrame_eq (cmd sub cb : Byte) (data : Bytes) : cleanFrame cmd sub cb data =
    [0x02] ++ regularBody cmd sub cb data ++ [Config.checksum (regularBody cmd sub cb data)] := by
  simp [cleanFrame, encodeReg_eq, regularBody, Config.STX]

/-- The frame is the one the codec builds (40_frame_codec R132). -/
theorem cleanFrame_eq_regularFrame (cmd sub cb : Byte) (data : Bytes) :
    cleanFrame cmd sub cb data = regularFrame ([cmd, sub, cb] ++ data) := by
  rw [cleanFrame_eq, regularFrame_eq]
  simp [regularBody, Config.ETX]

/-- The whole frame, from its arrival at `stx` to `ack2`: it is in the frame store as it came (42_receive_fsm R227). -/
theorem runFor_frameRead (hr : s.rRun = true) (hst : s.rState = .stx) (hrx : s.rxf = [[]]) (hb : s.devIn = [])
    (hd : data.length ≤ 248)
    (ha : s.answers = List.replicate 3 (answer .success 0) ++ (dataAnswers data ++
      answer .success 0 :: answer .success 0 :: answers))
    (ht : s.turns = .unit (.frame false) (cleanFrame cmd sub cb data) ::
      (List.replicate 8 (.engine .recv) ++ turns)) :
    runFor 9 s = some { s with
      turns := turns, answers := answers, rxf := [cleanFrame cmd sub cb data], rxShape := .regular,
      rxLen := BitVec.ofNat 24 (data.length + 5), rEvent := .pass, rState := .ack2, rPhase := .start } := by
  refine (runFor_next (step_regularArrives hd hb ht)).trans ?_
  rw [show 8 = 5 + 3 from rfl, runFor_add, runFor_headerRead
    (s := { s with
      turns := List.replicate 8 (.engine .recv) ++ turns,
      devIn := encodeReg cmd sub cb data (Config.checksum (regularBody cmd sub cb data)) })
    (turns := List.replicate 3 (.engine .recv) ++ turns) hr hst hrx hd rfl ha rfl, Option.bind_some]
  refine Eq.trans (runFor_dataRead hr rfl rfl (rxDataCount_regular rfl rfl hd) rfl rfl rfl) ?_
  refine Eq.trans (runFor_endRead hr rfl rfl (by simp) rfl rfl rfl) ?_
  simp [cleanFrame, encodeReg_eq, hb, regularBody]

/-! ### The end of the call -/

/-- From `ack2` on: the frame is acknowledged, the last-frame test passes, the lock is released, the call ends with the
payload and the host collects it (42_receive_fsm R219, R222, R224, 43_orchestrator R265, R269). -/
theorem runFor_receiveCollected {p : Bytes} (hr : s.rRun = true) (hst : s.rState = .ack2) (hsh : s.rxShape ≠ .divided)
    (hparse : parseFrames s.rxf = some p) (ho : s.lockOwner = some .recv) (hret : s.returns = [])
    (ha : s.answers = answer .success 1 :: answers)
    (ht : s.turns = List.replicate 3 (.engine .recv) ++ .collect 0 :: turns) :
    runFor 4 s = some { endReceive s with
      turns := turns, answers := answers, devOut := s.devOut ++ [Config.ACK], lockOwner := none, rxOk := true,
      rxPayload := some p, hostOut := s.hostOut ++ [.receiveResult true (some p)] } := by
  refine Eq.trans (runFor_ackWritten (st := .ack2) (fun _ => rfl) rfl rfl hr hst ha ht) ?_
  refine Eq.trans (runFor_recv hr rfl rfl ((exec_rDone _).trans (if_neg fun h => hsh h.1))) ?_
  refine Eq.trans (runFor_recv hr rfl rfl (exec_rEnd_ok rfl hparse)) ?_
  refine Eq.trans (runFor_next (step_collect rfl)) ?_
  simp [collect, callReturns, respond, endReceive, lockRelease, ho, hret]

/-- The answers to the reads of a frame's fields, three before the data and two after it (42_receive_fsm R227). -/
theorem fieldAnswers_eq (data : Bytes) (more : List DevAnswer) :
    List.replicate (if data = [] then 5 else 6) (answer .success 0) ++ more =
      List.replicate 3 (answer .success 0) ++ (dataAnswers data ++ answer .success 0 :: answer .success 0 :: more) := by
  rw [dataAnswers]
  split_ifs <;> rfl

/-- Settles O59: the call starts, the enquiry is acknowledged, the frame is read, and the call ends with its payload. -/
theorem cleanReceiveOfARegularFrame : Obligations.CleanReceiveOfARegularFrame := by
  unfold Obligations.CleanReceiveOfARegularFrame
  intro s cmd sub cb data turns answers hc hr ho hb hret hd ht ha
  rw [← cleanFrame_eq] at ht
  rw [List.append_assoc, fieldAnswers_eq] at ha
  have hparse : parseFrames [cleanFrame cmd sub cb data] = some ([cmd, sub, cb] ++ data) := by
    rw [cleanFrame_eq_regularFrame]
    exact parseFrames_regularFrame (by simp; omega)
  exact ⟨_, runFor_trans (runFor_receiveStarted hc hr ht) (runFor_trans
      (runFor_enquiryAcknowledged rfl rfl rfl ho hb ha rfl) (runFor_trans
        (runFor_frameRead rfl rfl rfl hb hd rfl rfl)
        (runFor_receiveCollected rfl rfl nofun hparse rfl hret rfl rfl))),
    rfl, rfl, by simp [Config.ACK], hb, rfl, rfl, rfl, rfl, hret, rfl⟩

end Sys2Proof.Machine
end

section
/-! SUPPORT. The step, turn by turn: which instruction it executes and what a turn without one does (43_orchestrator
R269; log 1, 14, 19, 26). -/

namespace Sys2Proof.Machine

variable {s s' : State} {u : Turn} {rest : List Turn}

/-! ### The step in terms of fetch and decode -/

/-- A turn that holds an instruction executes it. -/
theorem step_of_fetch {c : Code} {i : Instr} (ht : s.turns = u :: rest)
    (hf : fetch u { s with turns := rest } = some (c, s')) (hd : decode c = .ok i) : step s = exec i s' := by
  simp only [step, ht, hf, hd]

/-- A turn that holds no instruction is the environment's. -/
theorem step_of_fetch_none (ht : s.turns = u :: rest) (hf : fetch u { s with turns := rest } = none) :
    step s = .next (environment u { s with turns := rest }) := by
  simp only [step, ht, hf]

/-- With no turn left nothing moves. -/
theorem step_noTurn (ht : s.turns = []) : step s = .next s := by
  simp only [step, ht]

/-! ### Engines, the wire and the codec -/

/-- A turn of the send engine, whether a `send` runs or not (10_state R21, R23). -/
theorem step_sendEngine (ht : s.turns = .engine .send :: rest) :
    step s = if s.sRun = true then exec (sendInstr s.sState) { s with turns := rest }
      else .next { s with turns := rest } := by
  split
  · next hr => exact step_send ht hr rfl
  · next hr => exact step_sendStopped ht (eq_false_of_ne_true hr)

/-- A turn of the receive engine, whether a `receive` runs or not (10_state R22, R23). -/
theorem step_recvEngine (ht : s.turns = .engine .recv :: rest) :
    step s = if s.rRun = true then exec (recvInstr s.rState) { s with turns := rest }
      else .next { s with turns := rest } := by
  split
  · next hr => exact step_recv ht hr rfl
  · next hr => exact step_recvStopped ht (eq_false_of_ne_true hr)

/-- Bytes that are no unit are refused (30_encoding R106, R109, R110). -/
theorem step_undecodable {ctx : WireContext} {bytes : Bytes} {e : DecodeError}
    (ht : s.turns = .unit ctx bytes :: rest) (hd : decode (.wire ctx bytes) = .error e) :
    step s = .refused (.undecodable e) := by
  simp only [step, ht, fetch, hd]

/-- A turn of the codec executes its request. -/
theorem step_codec {r : CodecRequest} (ht : s.turns = .codec r :: rest) :
    step s = exec (codecInstr r) { s with turns := rest } :=
  step_of_fetch ht rfl rfl

/-! ### Held requests (43_orchestrator R268) -/

/-- A held `send` is taken while none runs. -/
theorem step_heldSend_taken {k : Nat} {p : Bytes} (ht : s.turns = .heldSend k :: rest) (hfree : s.sRun = false)
    (hheld : s.heldSends[k]? = some p) :
    step s = exec (.send p) { s with turns := rest, heldSends := s.heldSends.eraseIdx k } :=
  step_of_fetch (c := .host (.send p)) ht (by simp only [fetch, hfree, hheld]) rfl

/-- A `send` that is not held, or while one runs, is not taken. -/
theorem step_heldSend_passes {k : Nat} (ht : s.turns = .heldSend k :: rest)
    (h : s.sRun = true ∨ s.heldSends[k]? = none) : step s = .next { s with turns := rest } := by
  refine step_of_fetch_none ht ?_
  obtain hrun | hnone := h
  · simp only [fetch, hrun]
  · simp only [fetch, hnone]
    split
    · next h => cases h
    · rfl

/-- A held `receive` is taken while none runs. -/
theorem step_heldReceive_taken {n : Nat} (ht : s.turns = .heldReceive :: rest) (hfree : s.rRun = false)
    (hheld : s.heldReceives = n + 1) : step s = exec .receive { s with turns := rest, heldReceives := n } :=
  step_of_fetch (c := .host .receive) ht (by simp only [fetch, hfree, hheld]) rfl

/-- A `receive` that is not held, or while one runs, is not taken. -/
theorem step_heldReceive_passes (ht : s.turns = .heldReceive :: rest) (h : s.rRun = true ∨ s.heldReceives = 0) :
    step s = .next { s with turns := rest } := by
  refine step_of_fetch_none ht ?_
  obtain hrun | hnone := h
  · simp only [fetch, hrun]
  · simp only [fetch, hnone]
    split
    · next h => cases h
    · rfl

/-! ### The environment and the host -/

/-- Bytes arrive. -/
theorem step_arrive {bytes : Bytes} (ht : s.turns = .arrive bytes :: rest) :
    step s = .next { s with turns := rest, devIn := s.devIn ++ bytes } :=
  step_of_fetch_none ht rfl

/-- The peer takes bytes (20_memory R71). -/
theorem step_deliver {n : Nat} (ht : s.turns = .deliver n :: rest) :
    step s = .next { s with turns := rest, devOut := s.devOut.drop n } :=
  step_of_fetch_none ht rfl

/-- A result that is there moves to what the host port has answered. -/
theorem collect_some {k : Nat} {r : HostResponse} (h : s.returns[k]? = some r) :
    collect k s = { s with returns := s.returns.eraseIdx k, hostOut := s.hostOut ++ [r] } := by
  simp only [collect, h, respond]

/-- With no such result nothing is collected. -/
theorem collect_none {k : Nat} (h : s.returns[k]? = none) : collect k s = s := by
  simp only [collect, h]

/-! ### A word of the opcode table -/

/-- The code that is placed is what the next step executes. -/
theorem step_placeCode {c : Code} {i : Instr} (hd : decode c = .ok i) (s : State) :
    step (placeCode c s) = exec i { placeCode c s with turns := s.turns } := by
  cases c with
  | wire ctx bytes => exact step_unit rfl hd
  | codec r => cases hd; exact step_codec rfl
  | host r => cases hd; exact step_host rfl
  | sendState w =>
    simp only [decode] at hd
    split at hd
    · next st hst =>
      cases hd
      simp only [placeCode, hst]
      exact step_send rfl rfl rfl
    · cases hd
  | recvState w =>
    simp only [decode] at hd
    split at hd
    · next st hst =>
      cases hd
      simp only [placeCode, hst]
      exact step_recv rfl rfl rfl
    · cases hd

/-- A number of the opcode table that names an instruction has a code that decodes to it. -/
theorem decode_tableCode {nbits w : Nat} {i : Instr} (h : decodeTableWord nbits w = some i) :
    decode (tableCode nbits w) = .ok i := by
  unfold decodeTableWord at h
  cases hd : decode (tableCode nbits w) with
  | error e => rw [hd] at h; cases h
  | ok j => rw [hd] at h; cases h; rfl

/-- Settles O5: one equation of the step for each kind of turn. -/
theorem stepRunsTheDecodedInstruction : Obligations.StepRunsTheDecodedInstruction := by
  unfold Obligations.StepRunsTheDecodedInstruction
  refine ⟨fun _ => step_noTurn, fun _ _ => step_sendEngine, fun _ _ => step_recvEngine, fun _ _ _ _ _ => step_unit,
    fun _ _ _ _ _ => step_undecodable, fun _ _ _ => step_host, fun _ _ _ => step_codec,
    fun _ _ _ _ => step_heldSend_taken, fun _ _ _ => step_heldSend_passes, fun _ _ _ => step_heldReceive_taken,
    fun _ _ => step_heldReceive_passes, fun _ _ _ => step_arrive, fun _ _ _ => step_deliver, ?_, ?_,
    fun s nbits w i h => step_placeCode (decode_tableCode h) s⟩
  · intro s k r rest ht hr
    rw [step_collect ht, collect_some (s := { s with turns := rest }) hr]
  · intro s k rest ht hr
    rw [step_collect ht, collect_none (s := { s with turns := rest }) hr]

end Sys2Proof.Machine
end

section
/-! SUPPORT. The requests of the host as equations of the next state, and what the host port and the codec refuse
(43_orchestrator R260 to R268, 40_frame_codec R133, R139; log 15 to 17). -/

namespace Sys2Proof.Machine

variable {s t : State} {p : Bytes} {f f0 g : Frame} {rest fs : List Frame}

/-! ### `construct` and `destruct` -/

/-- No call is in progress while neither engine runs (10_state R23). -/
theorem callInProgress_eq_false (hs : s.sRun = false) (hr : s.rRun = false) : callInProgress s = false := by
  simp [callInProgress, hs, hr]

/-- A call is in progress while an engine runs (10_state R23). -/
theorem callInProgress_eq_true (h : s.sRun = true ∨ s.rRun = true) : callInProgress s = true := by
  simpa [callInProgress] using h

/-- `construct`, once the open has answered, makes a fresh transport (43_orchestrator R261; log 15). -/
theorem exec_construct {a : DevAnswer} {as : List DevAnswer} (hs : s.sRun = false) (hr : s.rRun = false)
    (ha : s.answers = a :: as) : exec .construct s = .next { State.reset with
      deviceOpen := a.opened, devIn := a.stream, devOut := s.devOut, returns := s.returns,
      hostOut := s.hostOut ++ [.constructed], fcOut := s.fcOut, turns := s.turns, answers := as,
      freeCount := s.freeCount } := by
  simp only [exec, execConstruct, callInProgress_eq_false hs hr, Bool.false_eq_true, if_false, devOpen, ha]
  rfl

/-- `construct` during a call (70_reset_and_hazards R350; log 15). -/
theorem exec_construct_duringCall (h : s.sRun = true ∨ s.rRun = true) :
    exec .construct s = .refused .constructDuringCall :=
  if_pos (callInProgress_eq_true h)

/-- `destruct` with no call in progress (43_orchestrator R266). -/
theorem exec_destruct (hc : s.constructed = true) (hs : s.sRun = false) (hr : s.rRun = false) :
    exec .destruct s = .next { s with
      deviceOpen := false, constructed := false, hostOut := s.hostOut ++ [.destructed] } := by
  simp only [exec, execDestruct, hc, if_true, callInProgress_eq_false hs hr, Bool.false_eq_true, if_false]
  rfl

/-- `destruct` during a call (43_orchestrator R266). -/
theorem exec_destruct_duringCall (hc : s.constructed = true) (h : s.sRun = true ∨ s.rRun = true) :
    exec .destruct s = .refused .destructDuringCall :=
  (if_pos hc).trans (if_pos (callInProgress_eq_true h))

/-- Settles O41: the equations of both requests. -/
theorem constructAndDestruct : Obligations.ConstructAndDestruct := by
  unfold Obligations.ConstructAndDestruct
  exact ⟨fun _ _ _ => exec_construct, fun _ => exec_destruct⟩

/-! ### The counters as the host reads them -/

/-- `r2` as the host reads it: in the middle of `retry` the value before this action's increment (43_orchestrator
R267). -/
theorem visibleR2_eq (s : State) : visibleR2 s =
    if s.sRun = true ∧ s.sState = .retry ∧ (s.sPhase = .sleep ∨ s.sPhase = .close ∨ s.sPhase = .reopen) then s.r2 - 1
    else s.r2 := by
  unfold visibleR2
  split
  · next hst hph => simp [hst, hph]
  · next hst hph => simp [hst, hph]
  · next hst hph => simp [hst, hph]
  · next hsleep hclose hreopen =>
    rw [if_neg]
    rintro ⟨-, hst, hph | hph | hph⟩
    · exact hsleep hst hph
    · exact hclose hst hph
    · exact hreopen hst hph

/-- The middle of `retry`, once the lock is released. -/
theorem visibleR2_released (hr : s.sRun = true) (hst : s.sState = .retry) (hp : s.sPhase.released = true) :
    visibleR2 s = s.r2 - 1 := by
  rw [visibleR2_eq, if_pos]
  refine ⟨hr, hst, ?_⟩
  cases hph : s.sPhase <;> simp [hph, SendPhase.released] at hp ⊢

/-- Before the lock is released the register is as the last completed action left it. -/
theorem visibleR2_notReleased (hp : s.sPhase.released = false) : visibleR2 s = s.r2 := by
  rw [visibleR2_eq, if_neg]
  rintro ⟨-, -, hph | hph | hph⟩ <;> simp [hph, SendPhase.released] at hp

/-- In every state but `retry` the register is as the last completed action left it. -/
theorem visibleR2_of_ne_retry (hst : s.sState ≠ .retry) : visibleR2 s = s.r2 := by
  rw [visibleR2_eq, if_neg]
  rintro ⟨-, hretry, -⟩
  exact hst hretry

/-- Reading the counters answers and changes nothing else (43_orchestrator R267). -/
theorem exec_readCounters (hc : s.constructed = true) :
    exec .readCounters s = .next { s with hostOut := s.hostOut ++ [.counters s.r1 (visibleR2 s)] } :=
  if_pos hc

/-- A move that leaves its action unfinished leaves the counter that the host reads: the increment of `retry` comes with
the release of the lock, and the host does not see it until the action ends (43_orchestrator R267; log 13). -/
theorem SendMove.keeps_visibleR2 (h : SendMove s t) (hr : s.sRun = true) (hp : t.sPhase ≠ .start) :
    visibleR2 t = visibleR2 s := by
  cases h with
  | waits | drains => rfl
  | drained _ st | waitRelease st =>
    have hne : s.sState ≠ .retry := by simp [st]
    rw [visibleR2_of_ne_retry (s := s) hne]
    exact visibleR2_of_ne_retry hne
  | retryRelease st ph =>
    rw [visibleR2_notReleased (s := s) ph]
    exact Eq.trans (visibleR2_released hr st rfl) (BitVec.add_sub_cancel s.r2 1)
  | retryDue st ph | retryClose st ph =>
    rw [visibleR2_released (s := s) hr st (by rw [ph]; rfl)]
    exact visibleR2_released hr st rfl
  | emits | idle | enquiry | retryFail | retryPass | retryOpen | waitPass | doneMore | doneLast | error | end_ =>
    exact absurd rfl hp

/-- Settles O43: the answer of the request, and what an unfinished action leaves of it. -/
theorem readCountersHasNoSideEffect : Obligations.ReadCountersHasNoSideEffect := by
  unfold Obligations.ReadCountersHasNoSideEffect
  refine ⟨fun s hc => ?_, fun s t rest ht hr h hp => ?_⟩
  · rw [exec_readCounters hc, visibleR2_eq]
  · rw [step_send ht hr rfl] at h
    exact (send_cases (s := { s with turns := rest }) h).keeps_visibleR2 hr hp

/-! ### Refusals of the host port -/

/-- A payload of a size that `send` does not take (43_orchestrator R263). -/
theorem exec_send_payloadSize (hc : s.constructed = true) (h : p.length < 3 ∨ Config.maxPayload < p.length) :
    exec (.send p) s = .refused .payloadSize :=
  (if_pos hc).trans (if_pos (by rwa [Config.hdr_eq]))

/-- After `destruct` the transport takes no further operation but `construct` (43_orchestrator R266). -/
theorem exec_host_destructed (hc : s.constructed = false) (p : Bytes) :
    exec (.send p) s = .refused .transportDestructed ∧ exec .receive s = .refused .transportDestructed ∧
      exec .destruct s = .refused .transportDestructed ∧ exec .readCounters s = .refused .transportDestructed := by
  have hgone : ¬ s.constructed = true := by simp [hc]
  exact ⟨if_neg hgone, if_neg hgone, if_neg hgone, if_neg hgone⟩

/-! ### Refusals of the codec -/

/-- `buildDivided` above what FRAMECOUNT can number (40_frame_codec R133). -/
theorem exec_buildDivided_codecDomain (h : 3 + 65535 * 1024 < p.length) (s : State) :
    exec (.buildDivided p) s = .refused .codecDomain := by
  have hnone : buildDivided p = none := by
    rw [buildDivided, if_neg (by rw [Config.extMax_eq]; omega), if_neg (by rw [Config.formatMax_eq]; omega)]
  simp only [exec, execBuildDivided, hnone, buildResult]

/-- `buildFrames` above MAX_PAYLOAD (40_frame_codec R133). -/
theorem exec_buildFrames_codecDomain (h : Config.maxPayload < p.length) (s : State) :
    exec (.buildFrames p) s = .refused .codecDomain :=
  if_neg (Nat.not_le.mpr h)

/-- A parse operation without a payload is refused (40_frame_codec R139). -/
theorem parseResult_of_none {r : Option Bytes} (h : r = none) (s : State) :
    parseResult r s = .refused .parseDomain := by
  rw [h]
  rfl

/-- `parseDivided` outside its domain (40_frame_codec R139; log 17). -/
theorem parseDivided_eq_none (h : dividedListFits fs = false) : parseDivided fs = none := by
  cases fs with
  | nil => rfl
  | cons f0 rest => simp only [parseDivided, h, Bool.false_eq_true, if_false]

/-- `parseExtended` on a frame without all its fields (40_frame_codec R139; log 17). -/
theorem parseExtended_eq_none (h : extendedFits f = false) : parseExtended f = none := by
  simp only [parseExtended, h, Bool.false_eq_true, if_false]

/-- `parseRegular` on a frame without all its fields (40_frame_codec R139; log 17). -/
theorem parseRegular_eq_none (h : regularFits f = false) : parseRegular f = none := by
  simp only [parseRegular, h, Bool.false_eq_true, if_false]

/-- The domain of `parseFrames`, by the shape of frame 0: a regular one (log 17). -/
theorem framesFit_of_regular (hm : isExtended f0 = false) : framesFit (f0 :: rest) = regularListFits (f0 :: rest) := by
  simp only [framesFit, hm, Bool.false_eq_true, if_false]

/-- The domain of `parseFrames`, by the shape of frame 0: an extended or a divided one (log 17). -/
theorem framesFit_of_extended (hm : isExtended f0 = true) : framesFit (f0 :: rest) =
    if selectsDivided (!rest.isEmpty) (unbe (slice f0 5 8)) = true then dividedListFits (f0 :: rest)
    else extendedFits f0 := by
  simp only [framesFit, hm, if_true]

/-- `parseFrames` outside its domain (40_frame_codec R139; log 17). -/
theorem parseFrames_eq_none (h : framesFit fs = false) : parseFrames fs = none := by
  cases fs with
  | nil => rfl
  | cons f0 rest =>
    cases hm : isExtended f0 with
    | false =>
      rw [framesFit_of_regular hm] at h
      simp only [parseFrames, hm, h, Bool.false_eq_true, if_false]
    | true =>
      rw [framesFit_of_extended hm] at h
      cases hs : selectsDivided (!rest.isEmpty) (unbe (slice f0 5 8)) with
      | true =>
        rw [if_pos hs] at h
        exact (parseFrames_of_divided hm hs).trans (parseDivided_eq_none h)
      | false =>
        rw [if_neg (by simp [hs])] at h
        exact (parseFrames_of_extended hm hs).trans (parseExtended_eq_none h)

/-- A list whose frame 0 has the marker and less than the fields of an extended frame is in no domain (log 17). -/
theorem framesFit_of_short (hm : f[1]? = some 0xFE) (hl : f.length < 10) : framesFit (f :: rest) = false := by
  rw [framesFit_of_extended (isExtended_iff.mpr hm)]
  split
  · simp [dividedListFits, dividedFits, Nat.not_le.mpr (Nat.lt_of_lt_of_le hl (by decide : 10 ≤ 14))]
  · exact decide_eq_false (Nat.not_le.mpr hl)

/-- A list whose frame 0 is regular is in no domain with a frame of another shape, or one too short (40_frame_codec
R139, 93_implementation_defined U9; log 17). -/
theorem framesFit_of_mixed (hm : f[1]? ≠ some 0xFE) (hg : g ∈ rest) (hbad : g[1]? = some 0xFE ∨ g.length < 4) :
    framesFit (f :: rest) = false := by
  have hgbad : (!isExtended g && regularFits g) = false := by
    obtain hmarker | hshort := hbad
    · simp [isExtended_iff.mpr hmarker]
    · simp [regularFits, hshort]
  have hrest : rest.all (fun h => !isExtended h && regularFits h) = false :=
    List.all_eq_false.mpr ⟨g, hg, by simp only [hgbad, Bool.false_eq_true, not_false_eq_true]⟩
  rw [framesFit_of_regular (isExtended_eq_false_iff.mpr hm), regularListFits, hrest, Bool.and_false]

/-- Settles O44: one refusal for each request, and the lists that are in no domain. -/
theorem refusedRequests : Obligations.RefusedRequests := by
  unfold Obligations.RefusedRequests
  exact ⟨fun _ _ => exec_send_payloadSize, fun _ => exec_destruct_duringCall, fun _ => exec_construct_duringCall,
    fun p _ hc => exec_host_destructed hc p, fun _ s h => exec_buildDivided_codecDomain h s,
    fun _ s h => exec_buildFrames_codecDomain h s, fun _ s h => parseResult_of_none (parseFrames_eq_none h) s,
    fun _ s h => parseResult_of_none (parseDivided_eq_none h) s,
    fun _ s h => parseResult_of_none (parseRegular_eq_none (decide_eq_false (Nat.not_le.mpr h))) s,
    fun _ s h => parseResult_of_none (parseExtended_eq_none (decide_eq_false (Nat.not_le.mpr h))) s, rfl, rfl,
    fun _ _ => framesFit_of_short, fun _ _ _ => framesFit_of_mixed⟩

end Sys2Proof.Machine
end

section
/-! SUPPORT. Requests that start a call or are held, held requests from step to step, and their fairness
(43_orchestrator R262, R264, R268, 93_implementation_defined U13; log 14, 15). -/

namespace Sys2Proof.Machine

variable {s t : State} {u : Turn} {turns : List Turn} {e : Engine} {sched : Nat → Turn} {run : Nat → State}

/-! ### The requests -/

/-- A `send` that is asked for while one runs is held (43_orchestrator R268). -/
theorem execSend_holds {p : Bytes} {fs : List Frame} (hc : s.constructed = true) (hr : s.sRun = true)
    (hmin : 3 ≤ p.length) (hmax : p.length ≤ Config.maxPayload) (hfs : buildFrames p = some fs) :
    execSend p s = .next { s with heldSends := s.heldSends ++ [p] } := by
  have hsize : ¬ (p.length < Config.hdr ∨ Config.maxPayload < p.length) := by rw [Config.hdr_eq]; omega
  simp only [execSend, hc, if_true, if_neg hsize, hfs, hr]

/-- A `receive` that is asked for while one runs is held (43_orchestrator R268). -/
theorem execReceive_holds (hc : s.constructed = true) (hr : s.rRun = true) :
    execReceive s = .next { s with heldReceives := s.heldReceives + 1 } := by
  simp only [execReceive, hc, hr, if_true]

/-- `send` of a size that it takes starts its call or is held. -/
theorem exec_send_eq {p : Bytes} {fs : List Frame} (hc : s.constructed = true) (hmin : 3 ≤ p.length)
    (hmax : p.length ≤ Config.maxPayload) (hfs : buildFrames p = some fs) :
    exec (.send p) s =
      if s.sRun = true then .next { s with heldSends := s.heldSends ++ [p] } else .next (startSend p fs s) := by
  split
  · next hr => exact execSend_holds hc hr hmin hmax hfs
  · next hr => exact execSend_starts hc (eq_false_of_ne_true hr) hmin hmax hfs

/-- `receive` starts its call or is held. -/
theorem exec_receive_eq (hc : s.constructed = true) :
    exec .receive s =
      if s.rRun = true then .next { s with heldReceives := s.heldReceives + 1 } else .next (startReceive s) := by
  split
  · next hr => exact execReceive_holds hc hr
  · next hr => exact execReceive_starts hc (eq_false_of_ne_true hr)

/-! ### What a step does to the held requests -/

/-- The requests held in `s` are held in `t` under the same numbers, with others behind them perhaps. -/
def KeepsHeld (s t : State) : Prop :=
  (∀ (k : Nat) (p : Bytes), s.heldSends[k]? = some p → t.heldSends[k]? = some p) ∧ s.heldReceives ≤ t.heldReceives

/-- The held requests are as they were. -/
theorem keepsHeld_of_eq (hs : t.heldSends = s.heldSends) (hr : t.heldReceives = s.heldReceives) : KeepsHeld s t :=
  ⟨fun _ _ hp => hs ▸ hp, hr.ge⟩

/-- No move of the send engine touches a held request. -/
theorem SendMove.keepsHeld (h : SendMove s t) : KeepsHeld s t := by
  cases h <;> exact keepsHeld_of_eq rfl rfl

/-- No move of the receive engine touches a held request. -/
theorem RecvMove.keepsHeld (h : RecvMove s t) : KeepsHeld s t := by
  cases h with
  | len _ _ b => obtain ⟨ev, sh, n, he⟩ := lenByte_frame b _; rw [he]; exact keepsHeld_of_eq rfl rfl
  | extlen _ _ bs => obtain ⟨ev, sh, n, he⟩ := extLenBytes_frame bs _; rw [he]; exact keepsHeld_of_eq rfl rfl
  | _ => exact keepsHeld_of_eq rfl rfl

/-- `send` leaves the requests that are held already. -/
theorem execSend_keepsHeld {p : Bytes} (h : execSend p s = .next t) : KeepsHeld s t := by
  obtain ⟨-, -, -, fs, -, ⟨-, rfl⟩ | ⟨-, rfl⟩⟩ := execSend_cases h
  · refine ⟨fun k q hq => ?_, Nat.le_refl _⟩
    obtain ⟨hk, -⟩ := List.getElem?_eq_some_iff.mp hq
    exact (List.getElem?_append_left hk).trans hq
  · exact keepsHeld_of_eq rfl rfl

/-- `receive` leaves the requests that are held already. -/
theorem execReceive_keepsHeld (h : execReceive s = .next t) : KeepsHeld s t := by
  obtain ⟨-, ⟨-, rfl⟩ | ⟨-, rfl⟩⟩ := execReceive_cases h
  · exact ⟨fun _ _ hp => hp, Nat.le_succ _⟩
  · exact keepsHeld_of_eq rfl rfl

/-- Only a `construct` drops the held requests (log 15). -/
theorem hostTurn_keepsHeld {r : HostRequest} (h : exec (hostInstr r) s = .next t) :
    KeepsHeld s t ∨ r = .construct ∧ t.heldSends = [] := by
  cases r with
  | construct =>
    obtain ⟨-, ⟨-, rfl⟩ | ⟨s1, -, rfl⟩⟩ := execConstruct_cases h
    · exact .inl (keepsHeld_of_eq rfl rfl)
    · exact .inr ⟨rfl, rfl⟩
  | send p => exact .inl (execSend_keepsHeld h)
  | receive => exact .inl (execReceive_keepsHeld h)
  | destruct => obtain ⟨-, -, rfl⟩ := execDestruct_cases h; exact .inl (keepsHeld_of_eq rfl rfl)
  | readCounters => obtain ⟨-, rfl⟩ := execReadCounters_cases h; exact .inl (keepsHeld_of_eq rfl rfl)

/-- What a step can do to the held requests, by its turn `u`. -/
inductive HeldStep (u : Turn) (s t : State) : Prop where
  /-- The turn takes no held request. -/
  | keeps (held : KeepsHeld s t) (noSend : ∀ j, u = .heldSend j → s.sRun = true ∨ s.heldSends[j]? = none)
      (noReceive : u = .heldReceive → s.rRun = true ∨ s.heldReceives = 0)
  /-- The transport is constructed anew (log 15). -/
  | constructs (turn : u = .host .construct) (left : t.heldSends = [])
  /-- A held `send` is taken and its call starts (43_orchestrator R268). -/
  | takesSend (j : Nat) (p : Bytes) (turn : u = .heldSend j) (free : s.sRun = false)
      (held : s.heldSends[j]? = some p) (left : t.heldSends = s.heldSends.eraseIdx j)
      (same : t.heldReceives = s.heldReceives) (runs : t.sRun = true) (payload : t.txPayload = p)
  /-- A held `receive` is taken and its call starts (43_orchestrator R268). -/
  | takesReceive (turn : u = .heldReceive) (free : s.rRun = false) (left : s.heldReceives = t.heldReceives + 1)
      (same : t.heldSends = s.heldSends) (runs : t.rRun = true)

/-- The turn that takes the held `send` number `j`. -/
theorem heldStep_heldSend {j : Nat} (ht : s.turns = .heldSend j :: turns) (h : step s = .next t) :
    HeldStep (.heldSend j) s t := by
  by_cases hpass : s.sRun = true ∨ s.heldSends[j]? = none
  · rw [step_heldSend_passes ht hpass] at h
    cases h
    exact .keeps (keepsHeld_of_eq rfl rfl) (fun _ hj => by cases hj; exact hpass) nofun
  · obtain ⟨hrun, hheld⟩ := not_or.mp hpass
    have hfree := eq_false_of_ne_true hrun
    obtain ⟨p, hp⟩ := Option.ne_none_iff_exists'.mp hheld
    rw [step_heldSend_taken ht hfree hp] at h
    obtain ⟨-, -, -, fs, -, ⟨hrun', -⟩ | ⟨-, rfl⟩⟩ := execSend_cases h
    · exact absurd hrun' hrun
    · exact .takesSend j p rfl hfree hp rfl rfl rfl rfl

/-- The turn that takes a held `receive`. -/
theorem heldStep_heldReceive (ht : s.turns = .heldReceive :: turns) (h : step s = .next t) :
    HeldStep .heldReceive s t := by
  by_cases hpass : s.rRun = true ∨ s.heldReceives = 0
  · rw [step_heldReceive_passes ht hpass] at h
    cases h
    exact .keeps (keepsHeld_of_eq rfl rfl) nofun fun _ => hpass
  · obtain ⟨hrun, hheld⟩ := not_or.mp hpass
    obtain ⟨n, hn⟩ := Nat.exists_eq_succ_of_ne_zero hheld
    have hfree := eq_false_of_ne_true hrun
    rw [step_heldReceive_taken ht hfree hn] at h
    obtain ⟨-, ⟨hrun', -⟩ | ⟨-, rfl⟩⟩ := execReceive_cases h
    · exact absurd hrun' hrun
    · exact .takesReceive rfl hfree hn rfl rfl

/-- Every other turn keeps the held requests or constructs the transport. -/
theorem step_keepsHeld_of_other (ht : s.turns = u :: turns) (hsend : ∀ j, u ≠ .heldSend j) (hrecv : u ≠ .heldReceive)
    (h : step s = .next t) : KeepsHeld s t ∨ u = .host .construct ∧ t.heldSends = [] := by
  cases step_cases h with
  | idle ht' => rw [ht] at ht'; cases ht'
  | arrives _ _ _ _ eq => subst eq; exact .inl (keepsHeld_of_eq rfl rfl)
  | delivers _ _ _ eq => subst eq; exact .inl (keepsHeld_of_eq rfl rfl)
  | collects _ _ _ eq => subst eq; exact .inl (keepsHeld_of_eq (by simp) (by simp))
  | passes _ _ _ eq => subst eq; exact .inl (keepsHeld_of_eq rfl rfl)
  | send rest _ _ eq => exact .inl (send_cases (s := { s with turns := rest }) eq).keepsHeld
  | recv rest _ _ eq => exact .inl (recv_cases (s := { s with turns := rest }) eq).keepsHeld
  | codec _ _ _ eq => obtain ⟨o, rfl⟩ := exec_codec_cases eq; exact .inl (keepsHeld_of_eq rfl rfl)
  | host _ r ht' eq =>
    cases ht.symm.trans ht'
    exact (hostTurn_keepsHeld eq).imp id (And.imp_left (congrArg Turn.host))
  | heldSend _ k _ ht' => cases ht.symm.trans ht'; exact absurd rfl (hsend k)
  | heldReceive _ _ ht' => cases ht.symm.trans ht'; exact absurd rfl hrecv

/-- Every step is one of these for the held requests. -/
theorem step_heldStep (ht : s.turns = u :: turns) (h : step s = .next t) : HeldStep u s t := by
  by_cases hsend : ∃ j, u = .heldSend j
  · obtain ⟨j, rfl⟩ := hsend
    exact heldStep_heldSend ht h
  by_cases hrecv : u = .heldReceive
  · subst hrecv
    exact heldStep_heldReceive ht h
  obtain hkeeps | ⟨hcon, hleft⟩ := step_keepsHeld_of_other ht (not_exists.mp hsend) hrecv h
  · exact .keeps hkeeps (fun j hj => absurd ⟨j, hj⟩ hsend) fun hr => absurd hr hrecv
  · exact .constructs hcon hleft

/-! ### The number of a held request after a turn -/

/-- The filter of `heldNext` passes the number of a request that is held. -/
theorem filter_heldCount {k : Nat} (h : k < heldCount e t) :
    (some k).filter (fun j => decide (j < heldCount e t)) = some k := by
  simp [h]

/-- A held `send` that is there still has its number, unless the turn takes one that stands before it. -/
theorem heldNext_send_keeps {k : Nat} (hu : ∀ j, u = .heldSend j → s.sRun = true ∨ k < j)
    (h : k < t.heldSends.length) : heldNext .send u s t k = some k := by
  cases u with
  | heldSend j =>
    have hnumber : (if s.sRun = true then some k else if j = k then none else some (if j < k then k - 1 else k)) =
        some k := by
      obtain hrun | hlt := hu j rfl
      · exact if_pos hrun
      · rw [if_neg (by omega : ¬ j = k), if_neg (by omega : ¬ j < k), ite_self]
    simp only [heldNext, hnumber]
    exact filter_heldCount (e := .send) h
  | _ => exact filter_heldCount (e := .send) h

/-- The held `send` that is taken is held no longer. -/
theorem heldNext_send_taken {k : Nat} (hfree : s.sRun = false) : heldNext .send (.heldSend k) s t k = none := by
  simp [heldNext, hfree]

/-- A held `send` behind the one that is taken moves up. -/
theorem heldNext_send_movesUp {j k : Nat} (hfree : s.sRun = false) (hlt : j < k) (h : k - 1 < t.heldSends.length) :
    heldNext .send (.heldSend j) s t k = some (k - 1) := by
  simp only [heldNext, hfree, Bool.false_eq_true, if_false, if_neg (by omega : ¬ j = k), if_pos hlt]
  exact filter_heldCount (e := .send) h

/-- A held `receive` that is there still has its number, unless the turn takes one. -/
theorem heldNext_recv_keeps {k : Nat} (hu : u = .heldReceive → s.rRun = true) (h : k < t.heldReceives) :
    heldNext .recv u s t k = some k := by
  cases u with
  | heldReceive =>
    simp only [heldNext, hu rfl, if_true]
    exact filter_heldCount (e := .recv) h
  | _ => exact filter_heldCount (e := .recv) h

/-- With no `send` held, none has a number. -/
theorem heldNext_send_dropped {k : Nat} (h : t.heldSends = []) : heldNext .send u s t k = none := by
  simp [heldNext, heldCount, h]

/-- A held `send` is held on with its payload, or it is dropped by a `construct`, or its call has started. -/
theorem HeldStep.follows_send {k : Nat} {p : Bytes} (h : HeldStep u s t) (hp : s.heldSends[k]? = some p) :
    (∃ k', heldNext .send u s t k = some k' ∧ t.heldSends[k']? = some p) ∨
      heldNext .send u s t k = none ∧
        (u = .host .construct ∨ s.sRun = false ∧ t.sRun = true ∧ t.txPayload = p) := by
  obtain ⟨hk, -⟩ := List.getElem?_eq_some_iff.mp hp
  cases h with
  | keeps held noSend =>
    have hp' : t.heldSends[k]? = some p := held.1 k p hp
    refine .inl ⟨k, heldNext_send_keeps (fun j hj => (noSend j hj).imp id fun hnone => ?_)
      (List.getElem?_eq_some_iff.mp hp').1, hp'⟩
    have hlen := List.getElem?_eq_none_iff.mp hnone
    omega
  | constructs turn left => exact .inr ⟨heldNext_send_dropped left, .inl turn⟩
  | takesSend j q turn free held left _ runs payload =>
    subst turn
    have hlen : t.heldSends.length + 1 = s.heldSends.length := by
      rw [left, List.length_eraseIdx_add_one (List.getElem?_eq_some_iff.mp held).1]
    obtain hlt | rfl | hgt := Nat.lt_trichotomy j k
    · refine .inl ⟨k - 1, heldNext_send_movesUp free hlt (by omega), ?_⟩
      rw [left, List.getElem?_eraseIdx_of_ge (by omega), Nat.sub_add_cancel (by omega), hp]
    · exact .inr ⟨heldNext_send_taken free, .inr ⟨free, runs, payload.trans (Option.some_inj.mp (held.symm.trans hp))⟩⟩
    · have hj := (List.getElem?_eq_some_iff.mp held).1
      refine .inl ⟨k, heldNext_send_keeps (fun i hi => by cases hi; exact .inr hgt) (by omega), ?_⟩
      rw [left, List.getElem?_eraseIdx_of_lt hgt, hp]
  | takesReceive turn _ _ same =>
    subst turn
    exact .inl ⟨k, heldNext_send_keeps nofun (same ▸ hk), same ▸ hp⟩

/-- A held `receive` is held on, or it is dropped by a `construct`, or a call has started. -/
theorem HeldStep.follows_receive {k : Nat} (h : HeldStep u s t) (hk : k < s.heldReceives) :
    heldNext .recv u s t k ≠ none ∨ u = .host .construct ∨ s.rRun = false ∧ t.rRun = true := by
  cases h with
  | keeps held _ noReceive =>
    have hrun : u = .heldReceive → s.rRun = true := fun hu => (noReceive hu).resolve_right (by omega)
    rw [heldNext_recv_keeps hrun (hk.trans_le held.2)]
    exact .inl nofun
  | constructs turn => exact .inr (.inl turn)
  | takesSend j p turn _ _ _ same =>
    subst turn
    have hnext : heldNext .recv (.heldSend j) s t k = some k := heldNext_recv_keeps nofun (same ▸ hk)
    rw [hnext]
    exact .inl nofun
  | takesReceive _ free _ _ runs => exact .inr (.inr ⟨free, runs⟩)

/-! ### Fairness (93_implementation_defined U13) -/

/-- No turn raises the number of a held request. -/
theorem heldNext_le {k k' : Nat} (h : heldNext e u s t k = some k') : k' ≤ k := by
  unfold heldNext at h
  obtain ⟨hnumber, -⟩ := Option.filter_eq_some_iff.mp h
  split at hnumber
  · split_ifs at hnumber <;> cases hnumber <;> omega
  · split_ifs at hnumber <;> cases hnumber <;> omega
  · cases hnumber; omega

/-- Taking the oldest request while its engine is free lowers the numbers of the others. -/
theorem heldNext_takeOldest_lt {k k' : Nat} (hfree : engineFree e s = true)
    (h : heldNext e (takeOldest e) s t k = some k') : k' < k := by
  obtain ⟨hnumber, -⟩ := Option.filter_eq_some_iff.mp h
  cases e with
  | send =>
    obtain ⟨-, hrun⟩ : s.constructed = true ∧ s.sRun = false := by simpa [engineFree] using hfree
    simp only [takeOldest, hrun, Bool.false_eq_true, if_false] at hnumber
    split_ifs at hnumber <;> cases hnumber <;> omega
  | recv =>
    obtain ⟨-, hrun⟩ : s.constructed = true ∧ s.rRun = false := by simpa [engineFree] using hfree
    simp only [takeOldest, hrun, Bool.false_eq_true, if_false] at hnumber
    split_ifs at hnumber
    cases hnumber
    omega

/-- The number of a held request never rises in a run. -/
theorem heldAt_le {n k k' m : Nat} (h : heldAt e sched run n k m = some k') : k' ≤ k := by
  induction m generalizing k' with
  | zero => cases h; exact Nat.le_refl k
  | succ m ih =>
    obtain ⟨i, hi, hnext⟩ := Option.bind_eq_some_iff.mp h
    exact (heldNext_le hnext).trans (ih hi)

/-- Following a request for `m` moments and then for `j` more. -/
theorem heldAt_add (n k m j : Nat) :
    heldAt e sched run n k (m + j) = (heldAt e sched run n k m).bind fun i => heldAt e sched run (n + m) i j := by
  induction j with
  | zero => simp [heldAt]
  | succ j ih => 
    rw [← Nat.add_assoc]
    simp only [heldAt, ih, Option.bind_assoc, Nat.add_assoc]

/-- With the oldest request first, every held request is taken at last: the number of a request that is passed over is
lower after the turn that takes the oldest one. -/
theorem heldAt_eventually_none (hsched : OldestFirst sched run) (k n : Nat)
    (hagain : AgainAndAgain n (fun m => engineFree e (run m) = true)) : ∃ m, heldAt e sched run n k m = none := by
  induction k using Nat.strong_induction_on generalizing n with
  | _ k ih =>
    obtain ⟨m, hm, hturn, hfree⟩ := hsched e n hagain
    obtain ⟨d, rfl⟩ := Nat.exists_eq_add_of_le hm
    cases hd : heldAt e sched run n k d with
    | none => exact ⟨d, hd⟩
    | some i =>
      have hafter : heldAt e sched run n k (d + 1) =
          heldNext e (takeOldest e) (run (n + d)) (run (n + d + 1)) i := by
        rw [heldAt, hd, Option.bind_some, hturn]
      cases hnext : heldNext e (takeOldest e) (run (n + d)) (run (n + d + 1)) i with
      | none => exact ⟨d + 1, hafter.trans hnext⟩
      | some j =>
        have hlt : j < k := (heldNext_takeOldest_lt hfree hnext).trans_le (heldAt_le hd)
        obtain ⟨m, hnone⟩ := ih j hlt (n + (d + 1)) fun m hle => hagain m (by omega)
        exact ⟨d + 1 + m, by rw [heldAt_add, hafter, hnext, Option.bind_some, hnone]⟩

/-- Settles O42: the equations of both requests, what a step makes of a held one, and the fairness of a schedule that
takes the oldest first. -/
theorem sendAndReceiveStartOrAreHeld : Obligations.SendAndReceiveStartOrAreHeld := by
  unfold Obligations.SendAndReceiveStartOrAreHeld
  refine ⟨fun p s hc hmin hmax => ?_, fun s hc => ⟨_, _, _, _, exec_receive_eq hc⟩,
    fun s t u rest k ht h => ⟨fun p hp => ?_, fun hk hnone => ?_⟩,
    fun sched env run _ hsched e n k _ => heldAt_eventually_none hsched k n⟩
  · obtain ⟨fs, hfs, -⟩ := buildFrames_by_size (hmax.trans maxPayload_le)
    exact ⟨fs, _, hfs, exec_send_eq hc hmin hmax hfs⟩
  · obtain ⟨k', hnext, hheld⟩ | ⟨hnone, hgone⟩ := (step_heldStep ht h).follows_send hp
    · rw [hnext]
      exact ⟨fun _ hk => by cases hk; exact hheld, nofun⟩
    · rw [hnone]
      exact ⟨nofun, fun _ => hgone⟩
  · exact ((step_heldStep ht h).follows_receive hk).resolve_left fun hne => hne hnone

end Sys2Proof.Machine
end

section
/-! SUPPORT. The addressing layer (44_addressing_boundary R280 to R286; log 22): the fields of a codebit as numbers,
what `read()` makes of a payload, and the layer's requests, returns and steps in terms of the transport under it. -/

namespace Sys2Proof.Machine

variable {l e : Layer} {s tx rx : State} {peer : Peer} {cmd sub cb : Byte} {data : Bytes} {turns : List Turn}

/-! ### Codebits -/

/-- The sender address is bits 7..5 of the codebit (30_encoding R96). -/
theorem codebitSender_toNat (cb : Byte) : (codebitSender cb).toNat = cb.toNat / 32 := by
  have hlt := cb.isLt
  simp only [codebitSender, BitVec.extractLsb'_toNat, Nat.shiftRight_eq_div_pow]
  omega

/-- The receiver address is bits 4..2 of the codebit (30_encoding R96). -/
theorem codebitReceiver_toNat (cb : Byte) : (codebitReceiver cb).toNat = cb.toNat / 4 % 8 := by
  simp only [codebitReceiver, BitVec.extractLsb'_toNat, Nat.shiftRight_eq_div_pow]

/-- The reserved division flags are 01 (30_encoding R107). -/
theorem flagsReserved_iff (cb : Byte) : flagsReserved cb = true ↔ cb.toNat % 4 = 1 := by
  rw [← codebitFlags_toNat]
  simp [flagsReserved, ← BitVec.toNat_inj]

/-- The check is on bits 7..2: the peer's address, then the local one (44_addressing_boundary R283). -/
theorem codebitOk_iff (peer : Peer) (cb : Byte) : codebitOk peer cb = true ↔
    cb.toNat / 4 = (addressOf peer).toNat * 8 + (addressOf (localRole peer)).toNat := by
  have hlocal := (addressOf (localRole peer)).isLt
  simp only [codebitOk, Bool.and_eq_true, decide_eq_true_eq, ← BitVec.toNat_inj, codebitSender_toNat,
    codebitReceiver_toNat]
  omega

/-- The outgoing codebit has division flags 00 (44_addressing_boundary R282). -/
theorem flagsReserved_codebitOut (peer : Peer) : flagsReserved (codebitOut peer) = false := by
  cases peer <;> decide

/-- The codebit that one party sends passes the check of the other (44_addressing_boundary R282, R283). -/
theorem codebitOk_of_other (peer : Peer) : codebitOk (localRole peer) (codebitOut peer) = true := by
  cases peer <;> decide

/-- The codebit that a party sends does not pass its own check. -/
theorem codebitOk_of_own (peer : Peer) : codebitOk peer (codebitOut peer) = false := by
  cases peer <;> decide

/-! ### What `read()` makes of a payload -/

/-- Division flags 01 are refused (93_implementation_defined U3). -/
theorem readPayload_reserved (h : flagsReserved cb = true) :
    readPayload peer true (some ([cmd, sub, cb] ++ data)) = .error .reservedFlags :=
  if_pos h

/-- A payload whose codebit passes the check is received (44_addressing_boundary R284). -/
theorem readPayload_passes (hflags : flagsReserved cb = false) (hok : codebitOk peer cb = true) :
    readPayload peer true (some ([cmd, sub, cb] ++ data)) = .ok (.received cmd sub data) :=
  (if_neg (ne_true_of_eq_false hflags)).trans (if_pos hok)

/-- A payload whose codebit does not pass the check is nothing received (44_addressing_boundary R283). -/
theorem readPayload_foreign (hflags : flagsReserved cb = false) (hok : codebitOk peer cb = false) :
    readPayload peer true (some ([cmd, sub, cb] ++ data)) = .ok .nothingReceived :=
  (if_neg (ne_true_of_eq_false hflags)).trans (if_neg (ne_true_of_eq_false hok))

/-! ### The transports under the layer -/

/-- Another state of the sending transport is not another peer (44_addressing_boundary R280). -/
@[simp] theorem Layer.withSender_peer (s : State) (l : Layer) : (l.withSender s).peer = l.peer := by
  unfold Layer.withSender
  split <;> rfl

/-- Another state of the receiving transport is not another peer (44_addressing_boundary R280). -/
@[simp] theorem Layer.withReceiver_peer (s : State) (l : Layer) : (l.withReceiver s).peer = l.peer := by
  unfold Layer.withReceiver
  split <;> rfl

/-- The transmit instance of a pair changes alone (44_addressing_boundary R286). -/
theorem Layer.withSender_dual (h : l.channels = .dual tx rx) (s : State) :
    (l.withSender s).channels = .dual s rx := by
  simp only [Layer.withSender, h]

/-- The receive instance of a pair changes alone (44_addressing_boundary R286). -/
theorem Layer.withReceiver_dual (h : l.channels = .dual tx rx) (s : State) :
    (l.withReceiver s).channels = .dual tx s := by
  simp only [Layer.withReceiver, h]

/-- An outcome put elsewhere is a next state only where the outcome itself is. -/
theorem mapOutcome_eq_next {α : Type} {f : State → α} {o : Host.Outcome State Fault Refusal} {a : α}
    (h : mapOutcome f o = .next a) : ∃ s, o = .next s ∧ a = f s := by
  cases o with
  | next s => cases h; exact ⟨s, rfl, rfl⟩
  | fault r => cases h
  | refused r => cases h

/-- A step of the layer's sender is a step of its transport, put back where it was. -/
theorem Layer.stepSender_next (h : l.stepSender = .next e) : ∃ s, step l.sender = .next s ∧ e = l.withSender s := by
  unfold Layer.stepSender at h
  split at h
  case h_1 p hch =>
    simpa only [Layer.sender, hch] using mapOutcome_eq_next h
  case h_2 tx rx hch =>
    split at h
    · cases h
    · simpa only [Layer.sender, hch] using mapOutcome_eq_next h

/-- A step of the layer's receiver is a step of its transport, put back where it was. -/
theorem Layer.stepReceiver_next (h : l.stepReceiver = .next e) :
    ∃ s, step l.receiver = .next s ∧ e = l.withReceiver s := by
  unfold Layer.stepReceiver at h
  split at h
  case h_1 p hch =>
    simpa only [Layer.receiver, hch] using mapOutcome_eq_next h
  case h_2 tx rx hch =>
    split at h
    · cases h
    · simpa only [Layer.receiver, hch] using mapOutcome_eq_next h

/-- The transmit instance of a pair takes no `receive` (44_addressing_boundary R286). -/
theorem Layer.stepSender_wrongChannel (h : l.channels = .dual tx rx) (ht : tx.turns = .host .receive :: turns) :
    l.stepSender = .refused .wrongChannel := by
  simp [Layer.stepSender, h, ht, isReceiveTurn]

/-- The receive instance of a pair takes no `send` (44_addressing_boundary R286). -/
theorem Layer.stepReceiver_wrongChannel {p : Bytes} (h : l.channels = .dual tx rx)
    (ht : rx.turns = .host (.send p) :: turns) : l.stepReceiver = .refused .wrongChannel := by
  simp [Layer.stepReceiver, h, ht, isSendTurn]

/-! ### `write` and `read` -/

/-- `write` is the `send` of its payload (44_addressing_boundary R284). -/
theorem Layer.write_of_send (h : exec (.send (writePayload l.peer cmd sub data)) l.sender = .next s) :
    l.write cmd sub data = .next (l.withSender s) := by
  rw [Layer.write, h, mapOutcome]

/-- `read()` is a `receive` (44_addressing_boundary R284). -/
theorem Layer.read_of_receive (h : exec .receive l.receiver = .next s) : l.read = .next (l.withReceiver s) := by
  rw [Layer.read, h, mapOutcome]

/-- The oldest result moves to what the host port has answered. -/
theorem collect_head {r : HostResponse} {rs : List HostResponse} (h : s.returns = r :: rs) :
    collect 0 s = { s with returns := rs, hostOut := s.hostOut ++ [r] } := by
  simp [collect_some (k := 0) (r := r), h]

/-- `write` returns the result of the `send` that ended first. -/
theorem Layer.writeReturn_head {ok : Bool} {rs : List HostResponse} (h : l.sender.returns = .sendResult ok :: rs) :
    l.writeReturn = some (ok, l.withSender (collect 0 l.sender)) := by
  have hfirst : l.sender.returns.findSome? sendResult? = some ok := by rw [h]; rfl
  have hplace : l.sender.returns.findIdx (fun r => (sendResult? r).isSome) = 0 := by rw [h]; rfl
  simp only [Layer.writeReturn, hfirst, hplace]

/-- `read()` returns what the layer makes of the `receive` that ended first. -/
theorem Layer.readReturn_head {ok : Bool} {p : Option Bytes} {rs : List HostResponse}
    (h : l.receiver.returns = .receiveResult ok p :: rs) :
    l.readReturn = some (readPayload l.peer ok p, l.withReceiver (collect 0 l.receiver)) := by
  have hfirst : l.receiver.returns.findSome? receiveResult? = some (ok, p) := by rw [h]; rfl
  have hplace : l.receiver.returns.findIdx (fun r => (receiveResult? r).isSome) = 0 := by rw [h]; rfl
  simp only [Layer.readReturn, hfirst, hplace]

/-- Settles O60: the codebits and their check, the two requests and their returns, and the steps of a pair. -/
theorem addressingLayer : Obligations.AddressingLayer := by
  unfold Obligations.AddressingLayer
  refine ⟨by decide, by decide, fun peer cmd sub data => ⟨?othersRead, ?ownIgnored, rfl⟩,
    fun peer cmd sub cb data hcb => readPayload_reserved ((flagsReserved_iff cb).mpr hcb), codebitOk_iff,
    fun l cmd sub data hc hr hmax => ?write, fun l hc hr => ?read, fun l ok rs h => ?writeReturn,
    fun l ok p rs h => ?readReturn, fun l e h => ?peerFixed,
    fun l e tx rx hch => ⟨fun h => ?senderAlone, fun h => ?receiverAlone,
      fun _ ht => Layer.stepSender_wrongChannel hch ht, fun _ _ ht => Layer.stepReceiver_wrongChannel hch ht⟩⟩
  case othersRead => exact readPayload_passes (flagsReserved_codebitOut peer) (codebitOk_of_other peer)
  case ownIgnored => exact readPayload_foreign (flagsReserved_codebitOut peer) (codebitOk_of_own peer)
  case write =>
    have hsize : (writePayload l.peer cmd sub data).length ≤ Config.maxPayload := hmax
    obtain ⟨fs, hfs, -⟩ := buildFrames_by_size (hsize.trans maxPayload_le)
    have hsend : exec (.send (writePayload l.peer cmd sub data)) l.sender = .next (startSend _ fs l.sender) :=
      execSend_starts hc hr (by simp [writePayload]) hsize hfs
    exact ⟨_, hsend, rfl, rfl, Layer.write_of_send hsend⟩
  case read =>
    have hreceive : exec .receive l.receiver = .next (startReceive l.receiver) := execReceive_starts hc hr
    exact ⟨_, hreceive, rfl, Layer.read_of_receive hreceive⟩
  case writeReturn => rw [Layer.writeReturn_head h, collect_head h]
  case readReturn => rw [Layer.readReturn_head h, collect_head h]
  case peerFixed =>
    obtain h | h := h
    · obtain ⟨s, -, rfl⟩ := Layer.stepSender_next h
      exact Layer.withSender_peer s l
    · obtain ⟨s, -, rfl⟩ := Layer.stepReceiver_next h
      exact Layer.withReceiver_peer s l
  case senderAlone =>
    obtain ⟨s, -, rfl⟩ := Layer.stepSender_next h
    exact ⟨s, Layer.withSender_dual hch s⟩
  case receiverAlone =>
    obtain ⟨s, -, rfl⟩ := Layer.stepReceiver_next h
    exact ⟨s, Layer.withReceiver_dual hch s⟩

end Sys2Proof.Machine
end

section
/-! SUPPORT. The retry counters from step to step: what an engine's move makes of its counter, and that no turn of
anybody else moves one but construction (60_exceptions R315, 10_state R38, R39). -/

namespace Sys2Proof.Machine

variable {s t : State}

/-! ### The counter of the engine that moves -/

/-- A turn of the send engine spent waiting is none of the two that move `r2`: neither `idle`, nor `retry` before its
release. -/
theorem not_counting_of_sendCanWait (h : sendCanWait s = true) :
    s.sState ≠ .idle ∧ ¬ (s.sState = .retry ∧ s.sPhase.released = false) := by
  unfold sendCanWait at h
  split at h
  · next hst => simp [hst]
  · next hst =>
    have hph : s.sPhase = .reopen := of_decide_eq_true h
    simp [hst, hph, SendPhase.released]
  · next hretry =>
    refine ⟨fun hidle => ?_, fun hcounts => hretry hcounts.1⟩
    simp [hidle, sendPlain] at h

/-- What a move of the send engine makes of `r2`: `idle` sets it to 0, `retry` adds 1 in the turn that ends in its
release or at the ceiling, nothing else moves it (41_send_fsm R164, R170). -/
theorem SendMove.r2_eq (h : SendMove s t) :
    t.r2 = if s.sState = .idle then 0
      else if s.sState = .retry ∧ s.sPhase.released = false then s.r2 + 1 else s.r2 := by
  cases h with
  | waits can =>
    obtain ⟨hidle, hretry⟩ := not_counting_of_sendCanWait can
    rw [if_neg hidle, if_neg hretry]
  | emits ss _ _ _ _ st plain =>
    obtain ⟨hidle, hretry⟩ := not_counting_of_sendCanWait (sendPlain_canWait st plain)
    rw [if_neg hidle, if_neg hretry]
    rfl
  | idle st => simp [st]
  | retryRelease st ph | retryFail st ph => simp [st, ph]
  | retryPass st ph | retryDue st ph | retryClose st ph | retryOpen _ _ _ st ph => simp [st, ph, SendPhase.released]
  | enquiry st | drains _ _ _ st | drained _ st | waitRelease st | waitPass st | doneMore st | doneLast st | error st
  | end_ st => simp [st]

/-- A turn of the receive engine that can be spent waiting is in neither of the states that move `r1`. -/
theorem not_counting_of_recvCanWait (h : recvCanWait s.rState = true) : s.rState ≠ .idle ∧ s.rState ≠ .retry := by
  refine ⟨?_, ?_⟩ <;> intro hst <;> simp [hst, recvCanWait] at h

/-- A receive state whose action is device calls and an event can wait in them. -/
theorem recvPlain_canWait {rs : RecvState} {ev : Event} (hst : s.rState = rs) (hp : recvPlain rs ev = true) :
    recvCanWait s.rState = true := by
  rw [hst]
  cases rs with
  | idle | repoll | retry | done | error | end_ => cases hp
  | _ => rfl

@[simp] theorem lenByte_r1 (b : Byte) (s : State) : (lenByte b s).r1 = s.r1 := by
  obtain ⟨ev, sh, n, he⟩ := lenByte_frame b s
  rw [he, recvEmit_r1]

@[simp] theorem extLenBytes_r1 (bs : Bytes) (s : State) : (extLenBytes bs s).r1 = s.r1 := by
  obtain ⟨ev, sh, n, he⟩ := extLenBytes_frame bs s
  rw [he, recvEmit_r1]

@[simp] theorem frameNumberBytes_r1 (bs : Bytes) (s : State) : (frameNumberBytes bs s).r1 = s.r1 := rfl

/-- What a move of the receive engine makes of `r1`: `idle` sets it to 0, `retry` adds 1, nothing else moves it
(42_receive_fsm R205, R221). -/
theorem RecvMove.r1_eq (h : RecvMove s t) :
    t.r1 = if s.rState = .idle then 0 else if s.rState = .retry then s.r1 + 1 else s.r1 := by
  cases h with
  | waits can =>
    obtain ⟨hidle, hretry⟩ := not_counting_of_recvCanWait can
    rw [if_neg hidle, if_neg hretry]
  | emits _ _ _ _ _ st plain =>
    obtain ⟨hidle, hretry⟩ := not_counting_of_recvCanWait (recvPlain_canWait st plain)
    rw [if_neg hidle, if_neg hretry]
    rfl
  | idle st | retryPass st | retryFail st => simp [st]
  | pollReadable _ st | pollFail _ st | pollPass st | drains _ _ _ st | drained _ st | repoll st | stx _ _ _ st
  | len _ _ _ st | datacmd _ _ _ st | extlenSkip st | extlen _ _ _ st | numberSkip st | number _ _ _ st | dataNone st
  | data _ _ _ st | etx _ _ _ st | cs _ _ _ st | doneMore st | doneLast st | error st | endOk _ st | endFail st =>
    simp [st]

/-! ### A call that is still trying -/

/-- No entry of the send table leads back from `error` or `end` to a state that is still trying (41_send_fsm R162). -/
theorem tSend_trying {st st' : SendState} {ev : Event} (h : tSend st ev = some st') (hend : st' ≠ .end_) :
    st ≠ .error ∧ st ≠ .end_ := by
  cases st with
  | error => cases ev <;> cases h <;> exact absurd rfl hend
  | end_ => cases ev <;> cases h
  | _ => exact ⟨nofun, nofun⟩

/-- No entry of the receive table leads back from `error` or `end` to a state that is still trying (42_receive_fsm
R202). -/
theorem tRecv_trying {st st' : RecvState} {ev : Event} (h : tRecv st ev = some st') (hend : st' ≠ .end_) :
    st ≠ .error ∧ st ≠ .end_ := by
  cases st with
  | error => cases ev <;> cases h <;> exact absurd rfl hend
  | end_ => cases ev <;> cases h
  | _ => exact ⟨nofun, nofun⟩

/-- A `send` that is still trying after a move was so before it, or was in `idle`. -/
theorem SendMove.trying_before (h : SendMove s t) (hr : s.sRun = true) (ht : sendTrying t) :
    s.sState = .idle ∨ sendTrying s := by
  obtain ⟨hrun, hidle, herror, hend⟩ := ht
  obtain rfl | ⟨-, hst, -⟩ | ⟨-, hstop⟩ | ⟨-, htable, -⟩ := h.follows_table hr
  · exact .inr ⟨hr, hidle, herror, hend⟩
  · exact .inr ⟨hr, hst ▸ hidle, hst ▸ herror, hst ▸ hend⟩
  · simp [hrun] at hstop
  · exact or_iff_not_imp_left.mpr fun hs => ⟨hr, hs, tSend_trying htable hend⟩

/-- A `receive` that is still trying after a move was so before it, or was in `idle`. -/
theorem RecvMove.trying_before (h : RecvMove s t) (hr : s.rRun = true) (ht : recvTrying t) :
    s.rState = .idle ∨ recvTrying s := by
  obtain ⟨hrun, hidle, herror, hend⟩ := ht
  obtain rfl | ⟨-, hst, -⟩ | ⟨-, hstop⟩ | ⟨-, htable, -⟩ := h.follows_table hr
  · exact .inr ⟨hr, hidle, herror, hend⟩
  · exact .inr ⟨hr, hst ▸ hidle, hst ▸ herror, hst ▸ hend⟩
  · simp [hrun] at hstop
  · exact or_iff_not_imp_left.mpr fun hs => ⟨hr, hs, tRecv_trying htable hend⟩

/-- A `send` that is still trying after `retry` has counted is below the ceiling: at the ceiling the engine goes to
`error` (41_send_fsm R170, R178). -/
theorem SendMove.below_ceiling (h : SendMove s t) (hst : s.sState = .retry) (hph : s.sPhase.released = false)
    (ht : sendTrying t) : s.r2.toNat + 1 < Config.sendRetryLimit := by
  obtain ⟨-, -, herror, -⟩ := ht
  cases h with
  | retryRelease _ _ lt => exact lt
  | retryFail => exact absurd rfl herror
  | waits can => exact absurd ⟨hst, hph⟩ (not_counting_of_sendCanWait can).2
  | emits _ _ _ _ _ st plain => exact absurd ⟨hst, hph⟩ (not_counting_of_sendCanWait (sendPlain_canWait st plain)).2
  | retryPass _ ph | retryDue _ ph | retryClose _ ph | retryOpen _ _ _ _ ph => simp [ph, SendPhase.released] at hph
  | idle st | enquiry st | drains _ _ _ st | drained _ st | waitRelease st | waitPass st | doneMore st | doneLast st
  | error st | end_ st => simp [hst] at st

/-- A `receive` that is still trying after `retry` has counted is below the ceiling: at the ceiling the engine goes to
`error` (42_receive_fsm R221). -/
theorem RecvMove.below_ceiling (h : RecvMove s t) (hst : s.rState = .retry) (ht : recvTrying t) :
    s.r1.toNat + 1 < Config.recvRetryLimit := by
  obtain ⟨-, -, herror, -⟩ := ht
  cases h with
  | retryPass _ _ lt => exact lt
  | retryFail => exact absurd rfl herror
  | waits can => exact absurd hst (not_counting_of_recvCanWait can).2
  | emits _ _ _ _ _ st plain => exact absurd hst (not_counting_of_recvCanWait (recvPlain_canWait st plain)).2
  | idle st | len _ _ _ st | extlen _ _ _ st | pollReadable _ st | pollFail _ st | pollPass st | drains _ _ _ st
  | drained _ st | repoll st | stx _ _ _ st | datacmd _ _ _ st | extlenSkip st | numberSkip st | number _ _ _ st
  | dataNone st | data _ _ _ st | etx _ _ _ st | cs _ _ _ st | doneMore st | doneLast st | error st | endOk _ st
  | endFail st => simp [hst] at st

/-! ### The two sides of the invariant -/

/-- The send engine's side of `CounterInv`. -/
structure SendCounter (s : State) : Prop where
  range : s.r2.toNat ≤ Config.sendRetryLimit
  trying : sendTrying s → s.r2.toNat < Config.sendRetryLimit

/-- The receive engine's side of `CounterInv`. -/
structure RecvCounter (s : State) : Prop where
  range : s.r1.toNat ≤ Config.recvRetryLimit
  trying : recvTrying s → s.r1.toNat < Config.recvRetryLimit

/-- The invariant is its two sides. -/
theorem counterInv_iff : CounterInv s ↔ SendCounter s ∧ RecvCounter s where
  mp h := ⟨⟨h.r2, h.r2Trying⟩, ⟨h.r1, h.r1Trying⟩⟩
  mpr := fun ⟨hsend, hrecv⟩ => ⟨hsend.range, hsend.trying, hrecv.range, hrecv.trying⟩

/-- A step that leaves `r2` and makes no `send` a trying one keeps the send engine's side. -/
theorem SendCounter.of_kept (h : SendCounter s) (hr2 : t.r2 = s.r2) (htry : sendTrying t → sendTrying s) :
    SendCounter t :=
  ⟨hr2 ▸ h.range, fun ht => hr2 ▸ h.trying (htry ht)⟩

/-- A step that leaves `r1` and makes no `receive` a trying one keeps the receive engine's side. -/
theorem RecvCounter.of_kept (h : RecvCounter s) (hr1 : t.r1 = s.r1) (htry : recvTrying t → recvTrying s) :
    RecvCounter t :=
  ⟨hr1 ▸ h.range, fun ht => hr1 ▸ h.trying (htry ht)⟩

/-- A counter below its ceiling counts one up without wrapping. -/
theorem succ_toNat_of_lt {w n : Nat} {r : BitVec w} (h : r.toNat < n) (hn : n < 2 ^ w) :
    (r + 1).toNat = r.toNat + 1 := by
  simp only [BitVec.toNat_add, BitVec.ofNat_eq_ofNat, BitVec.toNat_ofNat, Nat.add_mod_mod]
  exact Nat.mod_eq_of_lt (Nat.lt_of_le_of_lt h hn)

/-- Every move of the send engine keeps its side: `idle` starts the count, `retry` counts while it is below the ceiling,
and every other move leaves the count (41_send_fsm R178). -/
theorem SendMove.keeps_sendCounter (h : SendMove s t) (hr : s.sRun = true) (hi : SendCounter s) : SendCounter t := by
  have hcount := h.r2_eq
  by_cases hidle : s.sState = .idle
  · rw [if_pos hidle] at hcount
    exact ⟨by simp [hcount], fun _ => by simp [hcount]⟩
  rw [if_neg hidle] at hcount
  by_cases hretry : s.sState = .retry ∧ s.sPhase.released = false
  · rw [if_pos hretry] at hcount
    obtain ⟨hst, hph⟩ := hretry
    have hbelow : s.r2.toNat < Config.sendRetryLimit := hi.trying (by simp [sendTrying, hr, hst])
    have hnat : t.r2.toNat = s.r2.toNat + 1 := hcount ▸ succ_toNat_of_lt hbelow (by simp)
    exact ⟨hnat ▸ hbelow, fun ht => hnat ▸ h.below_ceiling hst hph ht⟩
  · rw [if_neg hretry] at hcount
    exact hi.of_kept hcount fun ht => (h.trying_before hr ht).resolve_left hidle

/-- Every move of the receive engine keeps its side: `idle` starts the count, `retry` counts while it is below the
ceiling, and every other move leaves the count (42_receive_fsm R221). -/
theorem RecvMove.keeps_recvCounter (h : RecvMove s t) (hr : s.rRun = true) (hi : RecvCounter s) : RecvCounter t := by
  have hcount := h.r1_eq
  by_cases hidle : s.rState = .idle
  · rw [if_pos hidle] at hcount
    exact ⟨by simp [hcount], fun _ => by simp [hcount]⟩
  rw [if_neg hidle] at hcount
  by_cases hretry : s.rState = .retry
  · rw [if_pos hretry] at hcount
    have hbelow : s.r1.toNat < Config.recvRetryLimit := hi.trying (by simp [recvTrying, hr, hretry])
    have hnat : t.r1.toNat = s.r1.toNat + 1 := hcount ▸ succ_toNat_of_lt hbelow (by simp)
    exact ⟨hnat ▸ hbelow, fun ht => hnat ▸ h.below_ceiling hretry ht⟩
  · rw [if_neg hretry] at hcount
    exact hi.of_kept hcount fun ht => (h.trying_before hr ht).resolve_left hidle

/-! ### The other turns -/

/-- The step from `s` to `t` leaves both counters, and no call is trying that was not before. -/
def CountersKept (s t : State) : Prop :=
  t.r1 = s.r1 ∧ t.r2 = s.r2 ∧ (sendTrying t → sendTrying s) ∧ (recvTrying t → recvTrying s)

/-- The counters stay in their ranges when they are left as they are. -/
theorem CounterInv.of_countersKept (hi : CounterInv s) (h : CountersKept s t) : CounterInv t := by
  obtain ⟨hr1, hr2, hsend, hrecv⟩ := h
  obtain ⟨hisend, hirecv⟩ := counterInv_iff.mp hi
  exact counterInv_iff.mpr ⟨hisend.of_kept hr2 hsend, hirecv.of_kept hr1 hrecv⟩

/-- The send engine's registers say whether a `send` is trying. -/
theorem sendTrying_of_sendRegs (h : sendRegs t = sendRegs s) (ht : sendTrying t) : sendTrying s := by
  obtain ⟨hst, hrun, -⟩ := sendRegs_eq_iff.mp h
  rwa [sendTrying, ← hrun, ← hst]

/-- The receive engine's registers say whether a `receive` is trying. -/
theorem recvTrying_of_recvRegs (h : recvRegs t = recvRegs s) (ht : recvTrying t) : recvTrying s := by
  obtain ⟨hst, hrun, -⟩ := recvRegs_eq_iff.mp h
  rwa [recvTrying, ← hrun, ← hst]

/-- A step that moves no register of an engine leaves the counters. -/
theorem countersKept_of_regs (hs : sendRegs t = sendRegs s) (hr : recvRegs t = recvRegs s) : CountersKept s t :=
  ⟨congrArg RecvRegs.r1 hr, congrArg SendRegs.r2 hs, sendTrying_of_sendRegs hs, recvTrying_of_recvRegs hr⟩

/-- The request `send`, from the host or held before: a call that starts is in `idle` with the count of the call
before. -/
theorem execSend_countersKept {p : Bytes} (h : execSend p s = .next t) : CountersKept s t := by
  obtain ⟨-, -, -, fs, -, ⟨-, rfl⟩ | ⟨-, rfl⟩⟩ := execSend_cases h
  · exact countersKept_of_regs rfl rfl
  · exact ⟨rfl, rfl, fun ⟨_, hidle, _⟩ => absurd rfl hidle, id⟩

/-- The request `receive`, from the host or held before: a call that starts is in `idle` with the count of the call
before. -/
theorem execReceive_countersKept (h : execReceive s = .next t) : CountersKept s t := by
  obtain ⟨-, ⟨-, rfl⟩ | ⟨-, rfl⟩⟩ := execReceive_cases h
  · exact countersKept_of_regs rfl rfl
  · exact ⟨rfl, rfl, id, fun ⟨_, hidle, _⟩ => absurd rfl hidle⟩

/-- Every request of the host but construction leaves the counters. -/
theorem execHost_countersKept {r : HostRequest} (hr : r ≠ .construct) (h : exec (hostInstr r) s = .next t) :
    CountersKept s t := by
  cases r with
  | construct => exact absurd rfl hr
  | send p => exact execSend_countersKept h
  | receive => exact execReceive_countersKept h
  | destruct => obtain ⟨-, -, rfl⟩ := execDestruct_cases h; exact countersKept_of_regs rfl rfl
  | readCounters => obtain ⟨-, rfl⟩ := execReadCounters_cases h; exact countersKept_of_regs rfl rfl

/-- Every turn that is neither an engine's nor construction leaves the counters. -/
theorem step_countersKept {u : Turn} {rest : List Turn} (ht : s.turns = u :: rest) (hengine : ∀ e, u ≠ .engine e)
    (hconstruct : u ≠ .host .construct) (h : step s = .next t) : CountersKept s t := by
  have head {u' : Turn} {rest' : List Turn} (ht' : s.turns = u' :: rest') : u = u' := by
    rw [ht] at ht'
    exact List.head_eq_of_cons_eq ht'
  cases step_cases h with
  | idle hnone => simp [ht] at hnone
  | arrives _ _ _ _ eq | delivers _ _ _ eq | passes _ _ _ eq => subst eq; exact countersKept_of_regs rfl rfl
  | collects rest k _ eq => subst eq; exact countersKept_of_regs (by simp [sendRegs]) (by simp [recvRegs])
  | send _ ht' => exact absurd (head ht') (hengine .send)
  | recv _ ht' => exact absurd (head ht') (hengine .recv)
  | codec _ _ _ eq => obtain ⟨o, rfl⟩ := exec_codec_cases eq; exact countersKept_of_regs rfl rfl
  | host rest r ht' eq =>
    exact execHost_countersKept (s := { s with turns := rest }) (fun hr => hconstruct (hr ▸ head ht')) eq
  | heldSend rest k _ _ _ _ eq =>
    exact execSend_countersKept (s := { s with turns := rest, heldSends := s.heldSends.eraseIdx k }) eq
  | heldReceive rest n _ _ _ eq =>
    exact execReceive_countersKept (s := { s with turns := rest, heldReceives := n }) eq

/-! ### The obligations -/

/-- Settles O46: an engine's move keeps its own side of the invariant and leaves the other's alone, a transport that is
constructed has both counters at 0, and every other turn leaves them. -/
theorem everyStepKeepsCounterRanges : Obligations.EveryStepKeepsCounterRanges := by
  unfold Obligations.EveryStepKeepsCounterRanges
  intro s t hi h
  obtain ⟨hsend, hrecv⟩ := counterInv_iff.mp hi
  cases ht : s.turns with
  | nil =>
    rw [step_noTurn ht] at h
    cases h
    exact hi
  | cons u rest =>
    by_cases hconstruct : u = .host .construct
    · subst hconstruct
      rw [step_host ht] at h
      obtain ⟨-, ⟨-, rfl⟩ | ⟨s1, -, rfl⟩⟩ := execConstruct_cases h
      · exact hi.of_countersKept (countersKept_of_regs rfl rfl)
      · exact counterInv_of_stopped rfl rfl (Nat.zero_le _) (Nat.zero_le _)
    by_cases hengine : ∃ e, u = .engine e
    · obtain ⟨_ | _, rfl⟩ := hengine
      · obtain ⟨-, rfl⟩ | ⟨hr, hm⟩ := step_sendTurn ht h
        · exact hi.of_countersKept (countersKept_of_regs rfl rfl)
        · exact counterInv_iff.mpr ⟨hm.keeps_sendCounter hr (hsend.of_kept rfl id),
            hrecv.of_kept (congrArg RecvRegs.r1 hm.keeps_recvRegs) (recvTrying_of_recvRegs hm.keeps_recvRegs)⟩
      · obtain ⟨-, rfl⟩ | ⟨hr, hm⟩ := step_recvTurn ht h
        · exact hi.of_countersKept (countersKept_of_regs rfl rfl)
        · exact counterInv_iff.mpr
            ⟨hsend.of_kept (congrArg SendRegs.r2 hm.keeps_sendRegs) (sendTrying_of_sendRegs hm.keeps_sendRegs),
              hm.keeps_recvCounter hr (hrecv.of_kept rfl id)⟩
    · exact hi.of_countersKept (step_countersKept ht (not_exists.mp hengine) hconstruct h)

/-- Settles O56: what a move of each engine makes of its own counter and leaves to the other, and the other turns. -/
theorem retryCountersMoveOnlyInIdleAndRetry : Obligations.RetryCountersMoveOnlyInIdleAndRetry := by
  unfold Obligations.RetryCountersMoveOnlyInIdleAndRetry
  refine ⟨fun s t rest ht hr h => ?send, fun s t rest ht hr h => ?recv,
    fun s t u rest ht hengine hconstruct h => ?other⟩
  case send =>
    obtain ⟨hstop, -⟩ | ⟨-, hm⟩ := step_sendTurn ht h
    · simp [hr] at hstop
    · exact ⟨congrArg RecvRegs.r1 hm.keeps_recvRegs, hm.r2_eq⟩
  case recv =>
    obtain ⟨hstop, -⟩ | ⟨-, hm⟩ := step_recvTurn ht h
    · simp [hr] at hstop
    · exact ⟨congrArg SendRegs.r2 hm.keeps_sendRegs, hm.r1_eq⟩
  case other =>
    obtain ⟨hr1, hr2, -⟩ := step_countersKept ht hengine hconstruct h
    exact ⟨hr1, hr2⟩

end Sys2Proof.Machine
end

section
/-! SUPPORT. Turns spent waiting: a device call that has not answered, and a lock that the other engine owns
(60_exceptions R317, 43_orchestrator R269; log 2, 3, 29). -/

namespace Sys2Proof.Machine

variable {s : State} {a : DevAnswer} {rest : List DevAnswer} {n : Nat}

/-! ### Calls that have not answered -/

/-- A one-byte read without an answer has not answered. -/
theorem devRead1_unanswered (t : Config.Deadline) (ha : s.answers = []) : devRead1 t s = none := by
  simp only [devRead1, ha]

/-- A read of `n` bytes without an answer has not answered. -/
theorem devReadN_unanswered (n : Nat) (t : Config.Deadline) (ha : s.answers = []) : devReadN n t s = none := by
  simp only [devReadN, ha]

/-- A write without an answer has not answered. -/
theorem devWrite_unanswered (bs : Bytes) (ha : s.answers = []) : devWrite bs s = none := by
  simp only [devWrite, ha]

/-- A poll without an answer has not answered. -/
theorem devPoll_unanswered (t : Config.Deadline) (ha : s.answers = []) : devPoll t s = none := by
  simp only [devPoll, ha]

/-- An open without an answer has not answered. -/
theorem devOpen_unanswered (mode : Nat) (ha : s.answers = []) : devOpen mode s = none := by
  simp only [devOpen, ha]

/-- Where the device is open or the answer brings no byte, a successful read takes its bytes from the stream alone. -/
theorem readable_stream (h : s.deviceOpen = true ∨ a.stream = []) (hn : s.devIn.length ≤ n) :
    readable s.deviceOpen n a s.devIn = s.devIn := by
  unfold readable
  obtain hopen | hstream := h
  · simp [hopen]
  · simp [hstream, List.take_of_length_le hn]

/-- A timed one-byte read has not answered while its answer is a success that no byte serves (log 3, 29). -/
theorem devRead1_unserved {t : Config.Deadline} (ht : t ≠ some 0) (ha : s.answers = a :: rest)
    (hs : a.status = .success) (hopen : s.deviceOpen = true ∨ a.stream = []) (hb : s.devIn = []) :
    devRead1 t s = none := by
  have hnone : readable s.deviceOpen 1 a s.devIn = [] := (readable_stream hopen (by simp [hb])).trans hb
  have hread : read1 s.deviceOpen t a s.devIn = none := by simp [read1, hs, ht, hnone]
  simp only [devRead1, ha, hread]

/-- A timed read of `n` bytes has not answered while its answer is a success that fewer bytes cannot serve (log 3,
29). -/
theorem devReadN_unserved {t : Config.Deadline} (ht : t ≠ some 0) (ha : s.answers = a :: rest)
    (hs : a.status = .success) (hopen : s.deviceOpen = true ∨ a.stream = []) (hn : s.devIn.length < n) :
    devReadN n t s = none := by
  simp [devReadN, ha, hs, readable_stream hopen hn.le, hn, ht]

/-- The lock is not granted while the other engine owns it (10_state R40). -/
theorem lockAcquire_other {e o : Engine} (hne : o ≠ e) (ho : s.lockOwner = some o) : lockAcquire e s = none := by
  simp only [lockAcquire, ho, if_neg hne]

/-! ### Actions that wait in a call -/

/-- An answer read waits in its read. -/
theorem answerWait_waits (st : SendState) (h : devRead1 Config.tField s = none) : answerWait st s = .next s := by
  simp only [answerWait, h]

/-- A send-side write without an answer waits. -/
theorem sendWrite_waits (st : SendState) (bs : Bytes) (ha : s.answers = []) : sendWrite st bs s = .next s := by
  simp only [sendWrite, devWrite_unanswered bs ha]

/-- A receive-side write without an answer waits. -/
theorem recvWrite_waits (st : RecvState) (b : Byte) (ha : s.answers = []) : recvWrite st b s = .next s := by
  simp only [recvWrite, devWrite_unanswered [b] ha]

/-- A field of one byte waits in its read. -/
theorem field1_waits (st : RecvState) (k : Byte → State → State) (hne : s.rxf ≠ [])
    (h : devRead1 Config.tField s = none) : field1 st k s = .next s := by
  simp only [field1, if_neg hne, h]

/-- A field of `n` bytes waits in its read. -/
theorem fieldN_waits (st : RecvState) (k : Bytes → State → State) (hne : s.rxf ≠ [])
    (h : devReadN n Config.tField s = none) : fieldN st n k s = .next s := by
  simp only [fieldN, if_neg hne, h]

/-! ### The states that wait -/

/-- The two answer states wait in their read. -/
theorem exec_answers_wait (h : devRead1 Config.tField s = none) :
    exec .sAck s = .next s ∧ exec .sAck2 s = .next s :=
  ⟨answerWait_waits .ack h, answerWait_waits .ack2 h⟩

/-- The one-byte fields wait in their read. -/
theorem exec_bytes_wait (hne : s.rxf ≠ []) (h : devRead1 Config.tField s = none) :
    exec .rStx s = .next s ∧ exec .rLen s = .next s ∧ exec .rEtx s = .next s ∧ exec .rCs s = .next s := by
  refine ⟨field1_waits .stx _ hne h, field1_waits .len _ hne h, field1_waits .etx _ hne h, ?_⟩
  simp only [exec, execRCs, if_neg hne, h]

/-- The three-byte fields wait in their read, EXTLEN where there is one. -/
theorem exec_triples_wait (hne : s.rxf ≠ []) (h : devReadN 3 Config.tField s = none) :
    exec .rDatacmd s = .next s ∧ (s.rxShape ≠ .regular → exec .rDataextlen s = .next s) :=
  ⟨fieldN_waits .datacmd _ hne h, fun hsh => (if_neg hsh).trans (fieldN_waits .dataextlen _ hne h)⟩

/-- The frame numbers, where there are any, wait in their read. -/
theorem exec_numbers_wait (hne : s.rxf ≠ []) (h : devReadN 4 Config.tField s = none) (hsh : s.rxShape = .divided) :
    exec .rDataframenumber s = .next s :=
  (if_pos hsh).trans (fieldN_waits .dataframenumber _ hne h)

/-- The data, where there are any, wait in their read. -/
theorem exec_data_waits (hne : s.rxf ≠ []) (h : devReadN n Config.tField s = none) (hpos : 0 < n)
    (hlen : (s.rxShape = .regular ∨ s.rxShape = .extended) ∧ s.rxLen.toNat = n + 5 ∨
      s.rxShape = .divided ∧ s.rxLen.toNat = n + 12) : exec .rData s = .next s :=
  (exec_rData_field (rxDataCount_eq hlen) hpos).trans (fieldN_waits .data _ hne h)

/-- The states that drain wait in the first read that has no answer; send `reenquiry` waits in its write too. -/
theorem exec_drains_wait (ha : s.answers = []) : exec .sReenquiry s = .next s ∧ exec .rEnquiry s = .next s := by
  have hdrain : drainRead s = none := devRead1_unanswered Config.tDrain ha
  refine ⟨?_, by simp only [exec, execREnquiry, hdrain]⟩
  by_cases hp : s.sPhase = .write
  · simp only [exec, execSReenquiry, hp, sendWrite_waits _ _ ha]
  · simp only [exec, execSReenquiry_drain hp, hdrain]

/-- Settles O6: each call that has not answered, and the lock that the other engine owns. -/
theorem waitingEngineChangesNothing : Obligations.WaitingEngineChangesNothing := by
  unfold Obligations.WaitingEngineChangesNothing
  refine ⟨fun s ho => ?sendLock, fun s ho hp => ?recvLock, fun s ha => ?noAnswer, fun s ha hne => ?noFieldAnswer,
    fun s a rest ha hs hopen => ?unserved⟩
  case sendLock => simp only [exec, execSEnquiry, lockAcquire_other (by decide : Engine.recv ≠ .send) ho]
  case recvLock => simp only [exec, execRPoll, hp, lockAcquire_other (by decide : Engine.send ≠ .recv) ho]
  case noAnswer =>
    obtain ⟨hack, hack2⟩ := exec_answers_wait (devRead1_unanswered Config.tField ha)
    obtain ⟨hreenquiry, henquiry⟩ := exec_drains_wait ha
    refine ⟨hreenquiry, hack, hack2, sendWrite_waits .nak _ ha, henquiry, recvWrite_waits .ack _ ha,
      recvWrite_waits .ack2 _ ha, recvWrite_waits .nak _ ha, fun hcursor => ?frame, fun hp => ?reopen, fun hp => ?poll,
      fun hsend hrecv => ?construct⟩
    case frame => exact (execSFrame_eq (List.getElem?_eq_getElem hcursor)).trans (sendWrite_waits .frame _ ha)
    case reopen => simp only [exec, execSRetry, hp, devOpen_unanswered _ ha]
    case poll => simp only [exec, execRPoll_first hp, devPoll_unanswered _ ha]
    case construct =>
      simp only [exec, execConstruct, callInProgress_eq_false hsend hrecv, Bool.false_eq_true, if_false,
        devOpen_unanswered _ ha]
  case noFieldAnswer =>
    have hread (n : Nat) := devReadN_unanswered n Config.tField ha
    obtain ⟨hstx, hlen, hetx, hcs⟩ := exec_bytes_wait hne (devRead1_unanswered Config.tField ha)
    obtain ⟨hcmd, hextlen⟩ := exec_triples_wait hne (hread 3)
    exact ⟨hstx, hlen, hcmd, hetx, hcs, hextlen, exec_numbers_wait hne (hread 4),
      fun n hpos => exec_data_waits hne (hread n) hpos⟩
  case unserved =>
    have htimed : Config.tField ≠ some 0 := by simp
    have hread1 := devRead1_unserved htimed ha hs hopen
    have hread {n : Nat} : s.devIn.length < n → devReadN n Config.tField s = none :=
      devReadN_unserved htimed ha hs hopen
    exact ⟨fun hb => exec_answers_wait (hread1 hb), fun hne =>
      ⟨fun hb => exec_bytes_wait hne (hread1 hb), fun hn => exec_triples_wait hne (hread hn),
        fun hn => exec_numbers_wait hne (hread hn), fun n hn => exec_data_waits hne (hread hn) (by omega)⟩⟩

end Sys2Proof.Machine
end
